-- ==== Sys2Proof/Word.lean ====
section
/-! DEFINITION. The widths the whole model uses: bytes, 32-bit words, 16-bit counters, sequence numbers, and the numbers of
ports, masters, windows and slots. Nothing here is a choice of the model: each width is the spec's. -/

namespace Sys2Proof

/-- One byte, on the host bus or on a link. -/
abbrev Byte := BitVec 8

/-- A 32-bit quantity: a host address, a remote address, a register (spec 0.4: the host bus is 32 bits wide). -/
abbrev Word := BitVec 32

/-- A sequence number: 0 to 15, counted modulo 16 (R40). -/
abbrev Seq := BitVec 4

/-- A saturating 16-bit counter (R37, R63, R80, R119, R128, R131). -/
abbrev Counter := BitVec 16

/-- A port number, 0 to 3 (spec 0.1). -/
abbrev PortId := Fin 4

/-- A master ID, 0 to 3 (R109). -/
abbrev MasterId := Fin 4

/-- The number of a delayed-read slot or of a request slot, 0 to 3 (R124, R136). -/
abbrev SlotId := Fin 4

/-- The number of a window entry, 0 to 11 (R99). -/
abbrev EntryId := Fin 12

/-- `f` at each of four like things. Written out, so that the kernel evaluates it. -/
def mapFour {α β : Type} (f : α → β) (v : Vector α 4) : Vector β 4 :=
  #v[f v[0], f v[1], f v[2], f v[3]]

/-- `f` at each of the twelve window entries. Written out, so that the kernel evaluates it. -/
def mapTwelve {α β : Type} (f : α → β) (v : Vector α 12) : Vector β 12 :=
  #v[f v[0], f v[1], f v[2], f v[3], f v[4], f v[5], f v[6], f v[7], f v[8], f v[9], f v[10], f v[11]]

end Sys2Proof
end

