-- ==== Sys2Proof/Syntax.lean ====
section
/-! DEFINITION. The commands of the HJ634: one constructor of `Instr` per row of spec/opcode_table.json, with the operands the
rule of the row names. The table gives no row an encoding, so the operands are the fields of the happening itself. -/

namespace Sys2Proof

/-- The size of a host access (R109): 1, 2 or 4 bytes single, or a 16-byte burst. -/
inductive Size where
  | one
  | two
  | four
  | sixteen
deriving DecidableEq, Repr

/-- The number of bytes of an access of this size (R109). -/
def Size.bytes : Size → Nat
  | .one => 1
  | .two => 2
  | .four => 4
  | .sixteen => 16

/-- Four bytes in ascending address order: the data of a 4-byte single, or one beat of a burst (R109). -/
structure Beat where
  b0 : Byte
  b1 : Byte
  b2 : Byte
  b3 : Byte
deriving DecidableEq, Repr

/-- The four bytes of a beat in ascending address order. -/
def Beat.bytes (b : Beat) : List Byte := [b.b0, b.b1, b.b2, b.b3]

/-- The data of a host write, in ascending address order. Its shape is its size, so that no write carries more or fewer
bytes than its size (R109). -/
inductive WriteData where
  | one (b0 : Byte)
  | two (b0 b1 : Byte)
  | four (beat : Beat)
  | burst (beat0 beat1 beat2 beat3 : Beat)
deriving DecidableEq, Repr

/-- The size of the access that carries this data. -/
def WriteData.size : WriteData → Size
  | .one _ => .one
  | .two _ _ => .two
  | .four _ => .four
  | .burst _ _ _ _ => .sixteen

/-- The bytes of a write in ascending address order, the beats of a burst in beat order (R109). -/
def WriteData.bytes : WriteData → List Byte
  | .one b0 => [b0]
  | .two b0 b1 => [b0, b1]
  | .four b => b.bytes
  | .burst c0 c1 c2 c3 => c0.bytes ++ c1.bytes ++ c2.bytes ++ c3.bytes

/-- Direction, size and data of a host access (R109). -/
inductive AccessKind where
  | read (size : Size)
  | write (data : WriteData)
deriving DecidableEq, Repr

/-- The size of an access. -/
def AccessKind.size : AccessKind → Size
  | .read z => z
  | .write d => d.size

/-- The direction of a register access that is not a 4-byte single. -/
inductive Direction where
  | read
  | write
deriving DecidableEq, Repr

/-- The sizes the register window refuses (Table 7-2): 1 byte, 2 bytes, a 16-byte burst. -/
inductive WrongSize where
  | one
  | two
  | sixteen
deriving DecidableEq, Repr

/-- The number of bytes of an access of a size the register window refuses. -/
def WrongSize.bytes : WrongSize → Nat
  | .one => 1
  | .two => 2
  | .sixteen => 16

/-- An access at an offset of the register window (Table 7-2): a 4-byte single read, a 4-byte single write of a value, or an
access of a size the window refuses, whose data no rule consults. -/
inductive RegAccess where
  | read4
  | write4 (value : Word)
  | wrongSize (dir : Direction) (size : WrongSize)
deriving DecidableEq, Repr

/-- The number of bytes of a register-window access. -/
def RegAccess.bytes : RegAccess → Nat
  | .read4 => 4
  | .write4 _ => 4
  | .wrongSize _ z => z.bytes

/-- A termination given by the default responder or the board's bus monitor (Table 7-6), or by the bridge (Table 7-1). -/
inductive Termination where
  | ack
  | berr
  | rty
deriving DecidableEq, Repr

/-- The cause of a REJECT frame (R21). -/
inductive RejectCause where
  | sequence
  | busy
  | address
  | denied
deriving DecidableEq, Repr

/-- The commands: every row of spec/opcode_table.json, in the table's order. -/
inductive Instr where
  /-- OWNED_WRITE (R114). -/
  | ownedWrite (master : MasterId) (addr : Word) (data : WriteData)
  /-- OWNED_READ (R126). -/
  | ownedRead (master : MasterId) (addr : Word) (size : Size)
  /-- MIRRORED_WRITE (R116). -/
  | mirroredWrite (master : MasterId) (addr : Word) (data : WriteData)
  /-- PASSED_ACCESS (R113). -/
  | passedAccess (master : MasterId) (addr : Word) (kind : AccessKind)
  /-- MIRROR_TERMINATION (R118): the default responder or the bus monitor terminates the access in progress. -/
  | mirrorTermination (termination : Termination)
  /-- REGISTER_WRITE (R112): an access at an offset of the register window that has no row of its own. -/
  | registerWrite (offset : BitVec 10) (access : RegAccess)
  /-- CONFIGURATION_A_WRITE (R98). -/
  | configurationAWrite (port : PortId) (value : Word)
  /-- CONFIGURATION_B_WRITE (R98). -/
  | configurationBWrite (port : PortId) (value : Word)
  /-- WINDOW_CONTROL_WRITE (R105). -/
  | windowControlWrite (entry : EntryId) (value : Word)
  /-- WINDOW_BASE_WRITE (R100). -/
  | windowBaseWrite (entry : EntryId) (value : Word)
  /-- WINDOW_REMOTE_WRITE (R100). -/
  | windowRemoteWrite (entry : EntryId) (value : Word)
  /-- DISCARD_TIME_WRITE (R134). -/
  | discardTimeWrite (value : Word)
  /-- CLASS_MASK_WRITE (R149). -/
  | classMaskWrite (value : Word)
  /-- INTERRUPT_CONTROL_WRITE (R154). -/
  | interruptControlWrite (value : Word)
  /-- REQUEST_CONTROL_WRITE (R137). -/
  | requestControlWrite (slot : SlotId) (value : Word)
  /-- REQUEST_REMOTE_ADDRESS_WRITE (R137). -/
  | requestRemoteAddressWrite (slot : SlotId) (value : Word)
  /-- REQUEST_DATA_WRITE (R137), to word `index` of the data buffer. -/
  | requestDataWrite (slot : SlotId) (index : Fin 4) (value : Word)
  /-- ENABLE (R88). -/
  | enable (port : PortId)
  /-- DISABLE (R94). -/
  | disable (port : PortId)
  /-- RESUME (R89). -/
  | resume (port : PortId)
  /-- FLUSH (R90). -/
  | flush (port : PortId)
  /-- RESTART (R92). -/
  | restart (port : PortId)
  /-- ACK_ATTENTION (R93). -/
  | ackAttention (port : PortId)
  /-- PORT_COMMAND_UNKNOWN (R87): the value written to port control. -/
  | portCommandUnknown (port : PortId) (value : Word)
  /-- SUBMIT (R139). -/
  | submit (slot : SlotId)
  /-- CANCEL (R141). -/
  | cancel (slot : SlotId)
  /-- RELEASE (R145). -/
  | release (slot : SlotId)
  /-- SLOT_COMMAND_UNKNOWN (R138): the value written to a slot's command register. -/
  | slotCommandUnknown (slot : SlotId) (value : Word)
  /-- POP (R151). -/
  | pop
  /-- EVENT_COMMAND_UNKNOWN (R161): the value written to event control. -/
  | eventCommandUnknown (value : Word)
  /-- CHIP_RESET (R158). -/
  | chipReset
  /-- GLOBAL_COMMAND_UNKNOWN (R158): the value written to global control. -/
  | globalCommandUnknown (value : Word)
  /-- CHIP_RESET_TAKEN (R160). -/
  | chipResetTaken
  /-- HARDWARE_RESET (R159): the reset pin is asserted. -/
  | hardwareReset
  /-- RESET_RELEASE (R159): the reset pin is released while the configuration pins carry `pins`. -/
  | resetRelease (pins : BitVec 4)
  /-- CRC_ERROR_COUNTER_READ (R37). -/
  | crcErrorCounterRead (port : PortId)
  /-- MALFORMED_FRAME_COUNTER_READ (R37). -/
  | malformedFrameCounterRead (port : PortId)
  /-- RETRANSMISSION_COUNTER_READ (R63). -/
  | retransmissionCounterRead (port : PortId)
  /-- STALE_RESPONSE_COUNTER_READ (R63). -/
  | staleResponseCounterRead (port : PortId)
  /-- PROBE_ATTEMPT_COUNTER_READ (R80). -/
  | probeAttemptCounterRead (port : PortId)
  /-- MIRROR_LOST_COUNTER_READ (R119). -/
  | mirrorLostCounterRead (port : PortId)
  /-- REFUSAL_COUNTER_READ (R128). -/
  | refusalCounterRead
  /-- INVALIDATION_COUNTER_READ (R131). -/
  | invalidationCounterRead
  /-- ACK_FRAME_RECEIVED (R47). -/
  | ackFrameReceived (port : PortId) (attention : Bool) (seq : Seq)
  /-- DATA_FRAME_RECEIVED (R47). -/
  | dataFrameReceived (port : PortId) (attention : Bool) (seq : Seq) (data : List Byte)
  /-- REJECT_FRAME_RECEIVED (R47). -/
  | rejectFrameReceived (port : PortId) (attention : Bool) (seq : Seq) (cause : RejectCause) (expected : Seq)
  /-- IDENT_FRAME_RECEIVED (R71). -/
  | identFrameReceived (port : PortId) (attention : Bool) (seq : Seq) (cls : BitVec 16) (revision : Byte) (window : Byte)
  /-- CRC_ERROR_FRAME (R33): the bytes of the frame as the line brings them, sync pair first. -/
  | crcErrorFrame (port : PortId) (bytes : List Byte)
  /-- MALFORMED_FRAME (R32): the bytes of the frame as the line brings them, sync pair first. -/
  | malformedFrame (port : PortId) (bytes : List Byte)
  /-- CARRIER_LOST (R35). -/
  | carrierLost (port : PortId)
  /-- CARRIER_REGAINED (R35). -/
  | carrierRegained (port : PortId)
  /-- TRANSMISSION_END (R27). -/
  | transmissionEnd (port : PortId)
  /-- RESPONSE_TIMER_EXPIRY (R44). -/
  | responseTimerExpiry (port : PortId)
  /-- BUSY_BACKOFF_END (R58). -/
  | busyBackoffEnd (port : PortId)
  /-- PROBE_RESPONSE_WAIT_EXPIRY (R70). -/
  | probeResponseWaitExpiry (port : PortId)
  /-- PROBE_INTERVAL_EXPIRY (R68). -/
  | probeIntervalExpiry (port : PortId)
  /-- REPROBE_INTERVAL_EXPIRY (R76). -/
  | reprobeIntervalExpiry (port : PortId)
  /-- DISCARD_TIMER_EXPIRY (R132). -/
  | discardTimerExpiry (slot : SlotId)
  /-- HOLDOFF_TIMER_EXPIRY (R153). -/
  | holdoffTimerExpiry
  /-- TIMESTAMP_TICK (R152). -/
  | timestampTick
deriving DecidableEq, Repr

end Sys2Proof
end

