-- ==== Sys2Proof/Config.lean ====
section
/-! DEFINITION. What an HJ634 fixes for good: the sizes of its pools and queues, its codes and bases, the steps of its
programmable times, and the one value the spec leaves open (`Config.registerWordOfBytes`). -/

namespace Sys2Proof.Config

/-- The transaction records of one port's pool (R3). -/
def poolSize : Nat := 16

/-- The event records the event queue holds (R149). -/
def eventQueueSize : Nat := 64

/-- The length of the register window in bytes (R156). -/
def registerWindowSize : Nat := 0x400

/-- The register window's base for configuration pin value 0 (R156). -/
def registerWindowBase : Nat := 0xC0000000

/-- The distance between two selectable bases of the register window (R156). -/
def registerWindowStride : Nat := 0x00100000

/-- The part code of the identity register (R158). -/
def partCode : BitVec 16 := 0x0634

/-- The silicon revision of the identity register (R158). -/
def siliconRevision : Byte := 0x01

/-- Microseconds in one step of the response timeout (Table 5-4). -/
def responseTimeoutStep : Nat := 4

/-- Microseconds in one step of the busy backoff time (Table 5-4). -/
def busyBackoffStep : Nat := 16

/-- Microseconds in one step (1 ms) of the probe interval (Table 5-4). -/
def probeIntervalStep : Nat := 1000

/-- Microseconds in one step of the discard time (R134). -/
def discardTimeStep : Nat := 8

/-- Microseconds in one step of the holdoff time (R153). -/
def holdoffTimeStep : Nat := 8

/-- The byte idle fill repeats (R19). -/
def idleFill : Byte := 0xFF

/-- The two bytes of the sync pair (R19). -/
def sync0 : Byte := 0xC3

@[inherit_doc sync0]
def sync1 : Byte := 0x5A

/-- The generator polynomial of the CRC, without its leading term (R22). -/
def crcPolynomial : BitVec 16 := 0x8BB7

/-- The value at which the check register starts (R22). -/
def crcStart : BitVec 16 := 0xFFFF

/-- FREE VALUE (log entry 3). The register value that four bytes of host write data, in ascending address order, stand for.
The spec places register fields by bit number and window data by ascending address, and never says which byte lane of the
host bus carries which bits of a register. It has no body, so nothing can be proved of it. -/
opaque registerWordOfBytes : Beat → Word

end Sys2Proof.Config
end

