-- ==== Sys2Proof/WellFormed.lean ====
section
/-! DEFINITION. Which commands are well formed: the operands a happening of the spec can have. `Instr.wellFormed` is a Bool.
The meanings are total all the same: each says what the spec says of an operand outside these ranges. -/

namespace Sys2Proof

/-- A host address is naturally aligned to the size of the access (R109). -/
def aligned (addr : Nat) (bytes : Nat) : Bool := addr % bytes == 0

/-- The codes that name one of the six port commands (Table 11-7). -/
def isPortCommandCode (value : Word) : Bool :=
  let c := value.toNat % 16
  1 ≤ c && c ≤ 6

/-- The codes that name one of the three slot commands (Table 11-7). -/
def isSlotCommandCode (value : Word) : Bool :=
  let c := value.toNat % 16
  1 ≤ c && c ≤ 3

/-- A DATA frame's length is 1 to 16 (R21). -/
def dataLengthAllowed (data : List Byte) : Bool := 1 ≤ data.length && data.length ≤ 16

/-- An IDENT frame's window is 1 to 8 (R34). -/
def identWindowAllowed (window : Byte) : Bool := 1 ≤ window.toNat && window.toNat ≤ 8

/-- The commands whose operands a happening of the spec can have. -/
def Instr.wellFormed : Instr → Bool
  | .ownedWrite _ a d => aligned a.toNat d.size.bytes
  | .ownedRead _ a z => aligned a.toNat z.bytes
  | .mirroredWrite _ a d => aligned a.toNat d.size.bytes
  | .passedAccess _ a k => aligned a.toNat k.size.bytes
  | .mirrorTermination _ => true
  | .registerWrite off acc => aligned off.toNat acc.bytes
  | .configurationAWrite _ _ => true
  | .configurationBWrite _ _ => true
  | .windowControlWrite _ _ => true
  | .windowBaseWrite _ _ => true
  | .windowRemoteWrite _ _ => true
  | .discardTimeWrite _ => true
  | .classMaskWrite _ => true
  | .interruptControlWrite _ => true
  | .requestControlWrite _ _ => true
  | .requestRemoteAddressWrite _ _ => true
  | .requestDataWrite _ _ _ => true
  | .enable _ => true
  | .disable _ => true
  | .resume _ => true
  | .flush _ => true
  | .restart _ => true
  | .ackAttention _ => true
  | .portCommandUnknown _ v => !isPortCommandCode v
  | .submit _ => true
  | .cancel _ => true
  | .release _ => true
  | .slotCommandUnknown _ v => !isSlotCommandCode v
  | .pop => true
  | .eventCommandUnknown v => v.toNat % 16 != 1
  | .chipReset => true
  | .globalCommandUnknown v => v.toNat % 16 != 1
  | .chipResetTaken => true
  | .hardwareReset => true
  | .resetRelease _ => true
  | .crcErrorCounterRead _ => true
  | .malformedFrameCounterRead _ => true
  | .retransmissionCounterRead _ => true
  | .staleResponseCounterRead _ => true
  | .probeAttemptCounterRead _ => true
  | .mirrorLostCounterRead _ => true
  | .refusalCounterRead => true
  | .invalidationCounterRead => true
  | .ackFrameReceived _ _ _ => true
  | .dataFrameReceived _ _ _ data => dataLengthAllowed data
  | .rejectFrameReceived _ _ _ _ _ => true
  | .identFrameReceived _ _ _ _ _ w => identWindowAllowed w
  | .crcErrorFrame _ _ => true
  | .malformedFrame _ _ => true
  | .carrierLost _ => true
  | .carrierRegained _ => true
  | .transmissionEnd _ => true
  | .responseTimerExpiry _ => true
  | .busyBackoffEnd _ => true
  | .probeResponseWaitExpiry _ => true
  | .probeIntervalExpiry _ => true
  | .reprobeIntervalExpiry _ => true
  | .discardTimerExpiry _ => true
  | .holdoffTimerExpiry => true
  | .timestampTick => true

end Sys2Proof
end

