-- ==== Sys2Proof/Machine/State.lean ====
section
/-! DEFINITION. The state of the HJ634 as plain data: every record, queue, buffer, counter, timer, mode, setting and pin the
spec names, each with the rule that names it, and the state after the hardware reset. Three fields are the model's own and no
state of the part: `now`, `answer` and `pending`. -/

namespace Sys2Proof.Machine

/-! ## Codes of states, causes and results -/

/-- The two lanes of a port's queue (R1, R4). -/
inductive Lane where
  | priority
  | normal
deriving DecidableEq, Repr

/-- The block that waits for a record's outcome (R1): POSTED, READ with its delayed-read slot, REQUEST with its request slot. -/
inductive Source where
  | posted
  | read (slot : SlotId)
  | request (slot : SlotId)
deriving DecidableEq, Repr

/-- The operation of a record or of a request slot (R1, R136). -/
inductive Operation where
  | write
  | read
deriving DecidableEq, Repr

/-- The one set of cause codes (Table 11-7): loss cause, fail cause, request result and event cause. -/
inductive Cause where
  | none
  | address
  | denied
  | timeout
  | busy
  | carrier
  | protocol
  | held
  | flushed
  | disabled
  | ok
  | refused
  | cancelled
  | ready
deriving DecidableEq, Repr

/-- The link states (Table 4-1). -/
inductive LinkState where
  | off
  | probing
  | up
  | lost
deriving DecidableEq, Repr

/-- The probe phases (Table 4-2). -/
inductive ProbePhase where
  | none
  | due
  | sending
  | waiting
  | resting
deriving DecidableEq, Repr

/-- The queue states of the fault hold (R83). -/
inductive QueueState where
  | run
  | held
deriving DecidableEq, Repr

/-- The result of a port command, a slot command or a POP (R83, R136, R151). -/
inductive CommandResult where
  | none
  | done
  | ignored
deriving DecidableEq, Repr

/-- The link rates (R24). -/
inductive LinkRate where
  | r2_5
  | r5
  | r10
  | r20
deriving DecidableEq, Repr

/-- The two modes of an address window (R99). -/
inductive WindowMode where
  | owned
  | mirrored
deriving DecidableEq, Repr

/-- The nine kinds of event record (Table 10-2). -/
inductive EventKind where
  | writeFault
  | linkUp
  | linkLost
  | stationChanged
  | attention
  | readDiscarded
  | mirrorLost
  | requestDone
  | flushed
deriving DecidableEq, Repr

/-! ## Transaction records and frames -/

/-- A transaction record that stands in a lane (Table 1-5). `reserved` tells RESERVED from QUEUED. `data` is empty where the
table says the field is absent: in a READ record and in a RESERVED one. -/
structure Record where
  lane : Lane
  source : Source
  operation : Operation
  remote : Word
  length : Nat
  data : List Byte
  reserved : Bool
deriving DecidableEq, Repr

/-- An OUTSTANDING record: a record in the send window with its sequence, retry count and busy count (Table 1-5). -/
structure Sent where
  record : Record
  seq : Seq
  retry : Nat
  busy : Nat
deriving DecidableEq, Repr

/-- A frame the bridge sends (R21, R23), by its fields. The attention flag of every one is 0. -/
inductive BridgeFrame where
  | write (seq : Seq) (remote : Word) (data : List Byte)
  | read (seq : Seq) (remote : Word) (length : Nat)
  | probe (seq : Seq)
deriving DecidableEq, Repr

/-- The frame in transmission (R24): its fields, fixed when it began, and whether it is a resend. -/
structure Transmission where
  frame : BridgeFrame
  resend : Bool
deriving DecidableEq, Repr

/-- The kinds of frame a station sends (R20). -/
inductive StationKind where
  | ack
  | data
  | reject
  | ident
deriving DecidableEq, Repr

/-- The body of a good station frame, by its fields (R21). -/
inductive StationBody where
  | ack
  | data (bytes : List Byte)
  | reject (cause : RejectCause) (expected : Seq)
  | ident (cls : BitVec 16) (revision : Byte) (window : Byte)
deriving DecidableEq, Repr

/-- A good station frame as the receiver delivers it (Table 2-5). -/
structure StationFrame where
  attention : Bool
  seq : Seq
  body : StationBody
deriving DecidableEq, Repr

/-- A header that passed the checks of R32: its three bytes as received, and the fields they decode to. -/
structure Header where
  raw : List Byte
  attention : Bool
  kind : StationKind
  seq : Seq
  bodyBytes : Nat
deriving DecidableEq, Repr

/-- The receiver's phase with what it has taken so far (Table 2-4): HUNT, armed or not (R31); HEADER; BODY; CHECK. -/
inductive Receiver where
  | hunt (armed : Bool)
  | header (taken : List Byte)
  | body (header : Header) (taken : List Byte)
  | check (header : Header) (body : List Byte) (taken : List Byte)
deriving DecidableEq, Repr

/-! ## A port -/

/-- The station record (Table 4-2). -/
structure Station where
  valid : Bool
  cls : BitVec 16
  revision : Byte
  advertised : BitVec 4
  attention : Bool
deriving DecidableEq, Repr

/-- The station record after a reset and after DISABLE (Table 4-2). -/
def Station.reset : Station where
  valid := false
  cls := 0
  revision := 0
  advertised := 0
  attention := false

/-- The eight fields of a port's configuration (Table 5-4), each at the width of its register field (Table 11-3). -/
structure PortConfig where
  rate : LinkRate
  windowLimit : BitVec 4
  retryLimit : BitVec 3
  busyLimit : BitVec 4
  autoReprobe : Bool
  probeInterval : Byte
  timeoutSteps : Byte
  backoffSteps : Byte
deriving DecidableEq, Repr

/-- The reset values of Table 5-4. -/
def PortConfig.reset : PortConfig where
  rate := .r10
  windowLimit := 4
  retryLimit := 3
  busyLimit := 8
  autoReprobe := true
  probeInterval := 10
  timeoutSteps := 25
  backoffSteps := 16

/-- All the state that exists once per port. A timer is `none` when it is stopped (or the backoff inactive) and `some t` when
it runs until the time `t` of `State.now`. -/
structure Port where
  /-- PTQ: the PRIORITY lane, front first (R4). -/
  priority : List Record
  /-- PTQ: the NORMAL lane, front first (R4). -/
  normal : List Record
  /-- PTQ: POSTED_IN (R16). -/
  postedIn : Word
  /-- PTQ: POSTED_DONE (R16). -/
  postedDone : Word
  /-- PTQ: POSTED_DROP (R16). -/
  postedDrop : Word
  /-- SEQ: the send window, oldest first (Table 3-1). -/
  window : List Sent
  /-- SEQ: the next sequence number (Table 3-1). -/
  nextSeq : Seq
  /-- SEQ: the sequences of the records the resend run has still to resend, in order; empty when no run is active (R45). -/
  resendRun : List Seq
  /-- SEQ: the busy backoff's end time (R58). -/
  backoff : Option Nat
  /-- SEQ: the response timer's end time (R43). -/
  responseTimer : Option Nat
  /-- SEQ: the retransmission counter (R63). -/
  retransmissions : Counter
  /-- SEQ: the stale-response counter (R63). -/
  staleResponses : Counter
  /-- LTX: the frame in transmission; `none` when the transmitter is free and sends idle fill (R24). -/
  transmitter : Option Transmission
  /-- LRX: the receiver's phase (R30). -/
  receiver : Receiver
  /-- LRX: the carrier status, present or absent (R35). -/
  carrier : Bool
  /-- LRX: the CRC-error counter (R37). -/
  crcErrors : Counter
  /-- LRX: the malformed-frame counter (R37). -/
  malformedFrames : Counter
  /-- LNK: the link state (R66). -/
  link : LinkState
  /-- LNK: the probe phase (R66). -/
  phase : ProbePhase
  /-- LNK: the probe sequence (R66). -/
  probeSeq : Option Seq
  /-- LNK: the probe timer's end time (R66). -/
  probeTimer : Option Nat
  /-- LNK: the loss cause (R66). -/
  lossCause : Cause
  /-- LNK: the station record (R66). -/
  station : Station
  /-- LNK: the effective window (R42, R66). -/
  effectiveWindow : BitVec 4
  /-- LNK: the probe-attempt counter (R80). -/
  probeAttempts : Counter
  /-- FHC: the queue state (R83). -/
  queue : QueueState
  /-- FHC: the result of the last port command (R83). -/
  commandResult : CommandResult
  /-- FHC: the port configuration (R97). -/
  config : PortConfig
  /-- HBT: the port's mirror-lost counter (R119). -/
  mirrorLost : Counter
deriving DecidableEq, Repr

/-- A port after the hardware reset (Tables 1-9, 3-1, 4-2, 5-1, 7-7; R24, R36, R37, R63), on a line whose carrier indication
is `carrier` and with configuration `config`. -/
def Port.resetWith (carrier : Bool) (config : PortConfig) : Port where
  priority := []
  normal := []
  postedIn := 0
  postedDone := 0
  postedDrop := 0
  window := []
  nextSeq := 0
  resendRun := []
  backoff := none
  responseTimer := none
  retransmissions := 0
  staleResponses := 0
  transmitter := none
  receiver := .hunt false
  carrier := carrier
  crcErrors := 0
  malformedFrames := 0
  link := .off
  phase := .none
  probeSeq := none
  probeTimer := none
  lossCause := .none
  station := Station.reset
  effectiveWindow := 0
  probeAttempts := 0
  queue := .run
  commandResult := .none
  config := config
  mirrorLost := 0

/-! ## The host bus target and the window table -/

/-- The port and remote address that the winning entry gives an access with a mirror reservation (R117). -/
structure MirrorTarget where
  port : PortId
  remote : Word
deriving DecidableEq, Repr

/-- A host access in progress, from its presentation to its termination (R109). `mirror` is present while a mirror reservation
stands for it (R117), and absent in an access that is passed without one. -/
structure HeldAccess where
  master : MasterId
  addr : Word
  kind : AccessKind
  mirror : Option MirrorTarget
deriving DecidableEq, Repr

/-- The shared state of the host bus target (Table 7-7). -/
structure HostTarget where
  /-- The access in progress: one that was passed, with a reservation or without, and is not yet terminated (R109). -/
  access : Option HeldAccess
  /-- The reservation mark: the port whose NORMAL lane ends in the RESERVED record (R117). -/
  reservation : Option PortId
  /-- The captured write data (R117). -/
  captured : Option (List Byte)
deriving DecidableEq, Repr

/-- The HBT after either reset (Table 7-7). -/
def HostTarget.reset : HostTarget where
  access := none
  reservation := none
  captured := none

/-- A window entry (Table 6-1). The base is held as its upper twenty bits and the remote base as its upper twenty-eight, so
that neither is ever off its multiple (R100). -/
structure WindowEntry where
  enable : Bool
  mode : WindowMode
  port : PortId
  sizeCode : BitVec 5
  base : BitVec 20
  remote : BitVec 28
  readPermitted : Bool
  writePermitted : Bool
deriving DecidableEq, Repr

/-- A window entry after the hardware reset (Table 6-1). -/
def WindowEntry.reset : WindowEntry where
  enable := false
  mode := .owned
  port := 0
  sizeCode := 0
  base := 0
  remote := 0
  readPermitted := false
  writePermitted := false

/-! ## The delayed read unit -/

/-- The key of a delayed read: master ID, host address and size (R124). -/
structure ReadKey where
  master : MasterId
  addr : Word
  size : Size
deriving DecidableEq, Repr

/-- The state of a slot that is not FREE, with the fields present in it (Table 8-1). -/
inductive ReadState where
  | pending
  | ready (data : List Byte) (deadline : Nat)
  | failed (cause : Cause) (deadline : Nat)
deriving DecidableEq, Repr

/-- A delayed-read slot that is not FREE (Table 8-1). A FREE slot is `none`: its fields are absent. -/
structure ReadSlot where
  key : ReadKey
  port : PortId
  remote : Word
  state : ReadState
deriving DecidableEq, Repr

/-- The delayed read unit (R124, R128, R131, R134). -/
structure DelayedReads where
  slots : Vector (Option ReadSlot) 4
  refusals : Counter
  invalidations : Counter
  /-- The discard time, as its count of 8 µs steps (R134). -/
  discardSteps : Byte
deriving DecidableEq, Repr

/-- The DRU after a reset that leaves the discard time at `steps` (R134, R135). -/
def DelayedReads.resetWith (steps : Byte) : DelayedReads where
  slots := Vector.replicate 4 none
  refusals := 0
  invalidations := 0
  discardSteps := steps

/-! ## The explicit request unit -/

/-- The state of a request slot; the result is present in COMPLETE alone (R136). -/
inductive RequestState where
  | idle
  | submitted
  | complete (result : Cause)
deriving DecidableEq, Repr

/-- A request slot (Table 9-1). -/
structure RequestSlot where
  state : RequestState
  port : PortId
  operation : Operation
  remote : Word
  length : BitVec 5
  buffer : Vector Byte 16
  priorityOption : Bool
  notify : Bool
  commandResult : CommandResult
deriving DecidableEq, Repr

/-- A request slot after either reset (Table 9-1). -/
def RequestSlot.reset : RequestSlot where
  state := .idle
  port := 0
  operation := .write
  remote := 0
  length := 0
  buffer := Vector.replicate 16 0
  priorityOption := false
  notify := false
  commandResult := .none

/-! ## The event queue -/

/-- The detail of an event record, by kind (Table 10-2). -/
inductive Detail where
  | none
  | sequence (seq : Seq)
  | identity (cls : BitVec 16) (revision : Byte)
  | cls (cls : BitVec 16)
  | returned (count : Nat)
  | readSlot (slot : SlotId) (master : MasterId)
  | requestSlot (slot : SlotId)
  | counts (posted reads requests : Nat)
deriving DecidableEq, Repr

/-- What a producer supplies when it offers a record (R147). -/
structure Offer where
  kind : EventKind
  port : PortId
  cause : Cause
  address : Word
  detail : Detail
deriving DecidableEq, Repr

/-- An event record in the queue: the offer, and the fields the EVQ supplies (R147). -/
structure EventRecord where
  offer : Offer
  lostBefore : Byte
  timestamp : Word
deriving DecidableEq, Repr

/-- The holdoff timer (R153). -/
inductive Holdoff where
  | stopped
  | running (endTime : Nat)
  | runOut
deriving DecidableEq, Repr

/-- The event queue and interrupt (Table 10-3). -/
structure EventQueue where
  /-- The records, head first (R151). -/
  records : List EventRecord
  /-- The lost-event counter (R150). -/
  lost : Byte
  /-- The result of the last POP (R151). -/
  popResult : CommandResult
  holdoff : Holdoff
  /-- The timestamp counter (R152). -/
  timestamp : Word
  /-- The class mask: bit k - 1 for the kind of code k (R149, Table 11-6). -/
  mask : BitVec 9
  irqEnable : Bool
  threshold : BitVec 7
  /-- The holdoff time, as its count of 8 µs steps (R154). -/
  holdoffSteps : Byte
  /-- The level of the interrupt line (R154). -/
  line : Bool
deriving DecidableEq, Repr

/-- The EVQ after a reset that leaves these settings (R155). -/
def EventQueue.resetWith (mask : BitVec 9) (irqEnable : Bool) (threshold : BitVec 7) (holdoffSteps : Byte) : EventQueue where
  records := []
  lost := 0
  popResult := .none
  holdoff := .stopped
  timestamp := 0
  mask := mask
  irqEnable := irqEnable
  threshold := threshold
  holdoffSteps := holdoffSteps
  line := false

/-! ## What the bridge answers a host access -/

/-- What the HBT does with the host access last presented to it (Table 7-1), or that it did not decide the access. The model's
own record of the bus pins: the spec's rules act on none of it. -/
inductive Answer where
  /-- No access has been presented since the hardware reset. -/
  | idle
  /-- CLAIM, terminated ACK, of a write. -/
  | ack
  /-- CLAIM, terminated ACK, of a register read, with the register's value. -/
  | ackWord (value : Word)
  /-- CLAIM, terminated ACK, of a window read, with its bytes in ascending address order. -/
  | ackData (bytes : List Byte)
  /-- CLAIM, terminated BERR. -/
  | berr
  /-- CLAIM, terminated RTY. -/
  | rty
  /-- OVERRIDE, terminated RTY. -/
  | override
  /-- PASS: the HBT gives no termination. -/
  | pass
  /-- The access could not be presented: another is in progress, or it is not naturally aligned (R109). -/
  | notPresented
  /-- The HBT decides no access until the chip reset has been taken (R160). -/
  | undecided
deriving DecidableEq, Repr

/-- The three decisions of the HBT (R110). -/
inductive Decision where
  | claim
  | pass
  | override
deriving DecidableEq, Repr

/-- The decision an answer stands for (Table 7-1); none where nothing was decided. -/
def Answer.decision : Answer → Option Decision
  | .ack | .ackWord _ | .ackData _ | .berr | .rty => some .claim
  | .override => some .override
  | .pass => some .pass
  | .idle | .notPresented | .undecided => none

/-- The termination the HBT gives with an answer (Table 7-1); none where it gives none. -/
def Answer.termination : Answer → Option Termination
  | .ack | .ackWord _ | .ackData _ => some .ack
  | .berr => some .berr
  | .rty | .override => some .rty
  | .idle | .pass | .notPresented | .undecided => none

/-! ## The whole bridge -/

/-- The state of the bridge. -/
structure State where
  /-- The four ports. -/
  ports : Vector Port 4
  /-- HBT. -/
  target : HostTarget
  /-- WT: the twelve window entries. -/
  windows : Vector WindowEntry 12
  /-- DRU. -/
  reads : DelayedReads
  /-- XRU: the four request slots. -/
  requests : Vector RequestSlot 4
  /-- EVQ. -/
  events : EventQueue
  /-- The reset pin is asserted (R159). -/
  resetAsserted : Bool
  /-- A CHIP_RESET has been written and not yet taken (R160). -/
  chipResetDue : Bool
  /-- The configuration pin value sampled at the last hardware reset (R156). -/
  pins : BitVec 4
  /-- The model's own: microseconds counted since the model began, the time base of every end time. -/
  now : Nat
  /-- The model's own: the answer to the host access last presented. -/
  answer : Answer
  /-- The model's own: the commands that are waiting, first in, first out. -/
  pending : List Instr
deriving DecidableEq, Repr

/-- Why the machine stops with a fault: never. Every command has an effect in every state (log entry 6), so the type is empty. -/
inductive Fault where
deriving DecidableEq, Repr

/-- Why a command is refused. -/
inductive Refusal where
  /-- Raised by `exec` alone, for a command that has no meaning yet; safe. No arm of `exec` raises it: every command has its
  meaning. -/
  | notModelled (mnemonic : String)
deriving DecidableEq, Repr

/-- The bridge after a hardware reset whose release sampled configuration pin value 0, with carrier on every line (log entries
1 and 2: the spec gives neither) and no command waiting. -/
def State.reset : State where
  ports := Vector.replicate 4 (Port.resetWith true PortConfig.reset)
  target := HostTarget.reset
  windows := Vector.replicate 12 WindowEntry.reset
  reads := DelayedReads.resetWith 64
  requests := Vector.replicate 4 RequestSlot.reset
  events := EventQueue.resetWith 0x1FF false 1 0
  resetAsserted := false
  chipResetDue := false
  pins := 0
  now := 0
  answer := .idle
  pending := []

end Sys2Proof.Machine
end

