-- ==== Sys2Proof/Machine/Flags.lean ====
section
/-! DEFINITION. The status the bridge computes: saturating counters, the codes of Table 11-7, the condition of the interrupt
line, room in a pool, and the end times of the programmable timers. -/

namespace Sys2Proof.Machine

/-! ## Counters -/

/-- One more, saturating at 65,535 (R37, R63, R80, R119, R128, R131). -/
def satSucc16 (c : Counter) : Counter := if c = 0xFFFF#16 then c else c + 1

/-- One more, saturating at 255 (R150). -/
def satSucc8 (c : Byte) : Byte := if c = 0xFF#8 then c else c + 1

/-! ## Codes (Table 11-7, Table 11-3, Table 11-4) -/

/-- The cause codes of Table 11-7. -/
def Cause.code : Cause → BitVec 4
  | .none => 0
  | .address => 1
  | .denied => 2
  | .timeout => 3
  | .busy => 4
  | .carrier => 5
  | .protocol => 6
  | .held => 7
  | .flushed => 8
  | .disabled => 9
  | .ok => 10
  | .refused => 11
  | .cancelled => 12
  | .ready => 13

/-- The link-state codes of Table 11-7. -/
def LinkState.code : LinkState → BitVec 2
  | .off => 0
  | .probing => 1
  | .up => 2
  | .lost => 3

/-- The probe-phase codes of Table 11-7. -/
def ProbePhase.code : ProbePhase → BitVec 3
  | .none => 0
  | .due => 1
  | .sending => 2
  | .waiting => 3
  | .resting => 4

/-- The queue state as bit 0 of port status (Table 11-3). -/
def QueueState.code : QueueState → BitVec 1
  | .run => 0
  | .held => 1

/-- The codes of a command result and of the POP result (Table 11-7). -/
def CommandResult.code : CommandResult → BitVec 2
  | .none => 0
  | .done => 1
  | .ignored => 2

/-- The link-rate codes of Table 11-3. -/
def LinkRate.code : LinkRate → BitVec 3
  | .r2_5 => 0
  | .r5 => 1
  | .r10 => 2
  | .r20 => 3

/-- The rate a code names; codes 4 to 7 name none (Table 11-3). -/
def LinkRate.ofCode (code : BitVec 3) : Option LinkRate :=
  if code = 0 then some .r2_5
  else if code = 1 then some .r5
  else if code = 2 then some .r10
  else if code = 3 then some .r20
  else none

/-- The mode bit of a window control word (Table 11-4). -/
def WindowMode.code : WindowMode → BitVec 1
  | .owned => 0
  | .mirrored => 1

/-- The mode a window control bit names (Table 11-4). -/
def WindowMode.ofBit (bit : Bool) : WindowMode := if bit then .mirrored else .owned

/-- The operation bit of a request control word (Table 11-5). -/
def Operation.code : Operation → BitVec 1
  | .write => 0
  | .read => 1

/-- The operation a request control bit names (Table 11-5). -/
def Operation.ofBit (bit : Bool) : Operation := if bit then .read else .write

/-- The size codes of the delayed-read slot status (R161). -/
def sizeCode : Size → BitVec 2
  | .one => 0
  | .two => 1
  | .four => 2
  | .sixteen => 3

/-- The event-kind codes of Table 11-7; 0 is NONE, which no record carries. -/
def EventKind.code : EventKind → Nat
  | .writeFault => 1
  | .linkUp => 2
  | .linkLost => 3
  | .stationChanged => 4
  | .attention => 5
  | .readDiscarded => 6
  | .mirrorLost => 7
  | .requestDone => 8
  | .flushed => 9

/-- A Bool as one bit of a register. -/
def bit (b : Bool) : BitVec 1 := if b then 1 else 0

/-! ## A port's counts -/

/-- The pool count: the port's records that are RESERVED, QUEUED or OUTSTANDING (R3). -/
def Port.poolCount (p : Port) : Nat := p.priority.length + p.normal.length + p.window.length

/-- A port has room when its pool count is below 16 (R3). -/
def Port.hasRoom (p : Port) : Bool := p.poolCount < Config.poolSize

/-- The state of a record that stands in a lane (R1). -/
def Record.queued (r : Record) : Bool := !r.reserved

/-- The number of QUEUED records of a lane (R17). -/
def queuedCount (lane : List Record) : Nat := (lane.filter Record.queued).length

/-- The link is UP and the queue RUN: the state in which RTY is given for want of room (R121). -/
def Port.flowing (p : Port) : Bool := p.link == .up && p.queue == .run

/-! ## End times -/

/-- The end time of a response timer, or of a response wait, started at `now` (R43, R69). -/
def PortConfig.timeoutEnd (c : PortConfig) (now : Nat) : Nat := now + Config.responseTimeoutStep * c.timeoutSteps.toNat

/-- The end time of a busy backoff that begins at `now` (R54). -/
def PortConfig.backoffEnd (c : PortConfig) (now : Nat) : Nat := now + Config.busyBackoffStep * c.backoffSteps.toNat

/-- The end time of a probe interval, or of a re-probe interval, started at `now` (R70, R74). -/
def PortConfig.probeEnd (c : PortConfig) (now : Nat) : Nat := now + Config.probeIntervalStep * c.probeInterval.toNat

/-- The discard deadline of a slot that takes its result at `now` (R129). -/
def DelayedReads.deadline (d : DelayedReads) (now : Nat) : Nat := now + Config.discardTimeStep * d.discardSteps.toNat

/-- The holdoff timer as it starts at `now`: a holdoff time of 0 makes it run out at once (R153). -/
def EventQueue.holdoffStart (e : EventQueue) (now : Nat) : Holdoff :=
  if e.holdoffSteps = 0 then .runOut else .running (now + Config.holdoffTimeStep * e.holdoffSteps.toNat)

/-! ## The interrupt line -/

/-- The condition under which the interrupt line is asserted (R154). -/
def EventQueue.lineCondition (e : EventQueue) : Bool :=
  e.irqEnable && (e.threshold.toNat ≤ e.records.length || (1 ≤ e.records.length && e.holdoff == .runOut))

/-- The line judged anew (R154). -/
def EventQueue.judged (e : EventQueue) : EventQueue := { e with line := e.lineCondition }

end Sys2Proof.Machine
end

