-- ==== Sys2Proof/Machine/Frames.lean ====
section
/-! DEFINITION. The remote link below the sequencer: the CRC (R22), the frames the bridge builds byte by byte (R19 to R23,
R163) and the time they take on the line (Table 2-2), the frames a station sends, and the receiver that takes a station's
bytes one at a time (R30 to R34). -/

namespace Sys2Proof.Machine

/-! ## The CRC -/

/-- One bit of the CRC computation (R22): shift left, and combine with the polynomial if the bit that left differed from the
incoming bit. -/
def crcBit (reg : BitVec 16) (incoming : Bool) : BitVec 16 :=
  if reg.msb != incoming then (reg <<< 1) ^^^ Config.crcPolynomial else reg <<< 1

/-- The bits of a byte, most significant first. -/
def byteBits (b : Byte) : List Bool :=
  [b.getLsbD 7, b.getLsbD 6, b.getLsbD 5, b.getLsbD 4, b.getLsbD 3, b.getLsbD 2, b.getLsbD 1, b.getLsbD 0]

/-- One byte of the CRC computation, most significant bit first (R22). -/
def crcByte (reg : BitVec 16) (b : Byte) : BitVec 16 := (byteBits b).foldl crcBit reg

/-- The CRC of a header and body (R22). -/
def crc (bytes : List Byte) : BitVec 16 := bytes.foldl crcByte Config.crcStart

/-- The high byte of a 16-bit quantity. -/
def hiByte (v : BitVec 16) : Byte := v.extractLsb' 8 8

/-- The low byte of a 16-bit quantity. -/
def loByte (v : BitVec 16) : Byte := v.extractLsb' 0 8

/-- The two CRC bytes as sent, most significant first (R22). -/
def crcBytes (bytes : List Byte) : List Byte := [hiByte (crc bytes), loByte (crc bytes)]

/-- A frame from its header and body: the sync pair before them, their CRC behind (R19). -/
def framed (headerAndBody : List Byte) : List Byte :=
  Config.sync0 :: Config.sync1 :: headerAndBody ++ crcBytes headerAndBody

/-- A 32-bit quantity as sent, most significant byte first (R19). -/
def wordBytes (w : Word) : List Byte := [w.extractLsb' 24 8, w.extractLsb' 16 8, w.extractLsb' 8 8, w.extractLsb' 0 8]

/-! ## Frames the bridge sends -/

/-- The sequence of a frame. -/
def BridgeFrame.seq : BridgeFrame → Seq
  | .write q _ _ => q
  | .read q _ _ => q
  | .probe q => q

/-- A frame carries a PROBE, not a record. -/
def BridgeFrame.isProbe : BridgeFrame → Bool
  | .probe _ => true
  | _ => false

/-- Header and body of a bridge frame (R21, R163): the kind codes 1, 2 and 3 with attention flag 0. -/
def BridgeFrame.headerAndBody : BridgeFrame → List Byte
  | .write q a d => 1#8 :: q.setWidth 8 :: BitVec.ofNat 8 d.length :: wordBytes a ++ d
  | .read q a n => 2#8 :: q.setWidth 8 :: BitVec.ofNat 8 n :: wordBytes a
  | .probe q => [3#8, q.setWidth 8, 0#8]

/-- The bytes of a bridge frame on the line. -/
def BridgeFrame.bytes (f : BridgeFrame) : List Byte := framed f.headerAndBody

/-- The frame that carries a record under a sequence number (R23). -/
def Record.frame (r : Record) (q : Seq) : BridgeFrame :=
  match r.operation with
  | .write => .write q r.remote r.data
  | .read => .read q r.remote r.length

/-- Nanoseconds one byte occupies the line: eight bit times at the port's rate (R24). -/
def LinkRate.byteTime : LinkRate → Nat
  | .r2_5 => 3200
  | .r5 => 1600
  | .r10 => 800
  | .r20 => 400

/-- Nanoseconds a frame occupies the line (Table 2-2). -/
def BridgeFrame.lineTime (rate : LinkRate) (f : BridgeFrame) : Nat := rate.byteTime * f.bytes.length

/-- What the transmitter puts on the line: the frame in transmission, or idle fill (R24). -/
def Port.lineBytes (p : Port) : List Byte :=
  match p.transmitter with
  | some t => t.frame.bytes
  | none => [Config.idleFill]

/-! ## Frames a station sends -/

/-- The code of a REJECT cause on the link (Table 11-10). -/
def rejectByte : RejectCause → Byte
  | .sequence => 1
  | .busy => 2
  | .address => 3
  | .denied => 4

/-- The REJECT cause a byte names (R34). -/
def rejectOfByte (b : Byte) : Option RejectCause :=
  if b = 1 then some .sequence
  else if b = 2 then some .busy
  else if b = 3 then some .address
  else if b = 4 then some .denied
  else none

/-- The station kind that a kind code names (Table 11-10). The bridge's own kinds 1, 2 and 3, and unknown codes, name none. -/
def StationKind.ofCode (code : BitVec 4) : Option StationKind :=
  if code = 8 then some .ack
  else if code = 9 then some .data
  else if code = 10 then some .reject
  else if code = 11 then some .ident
  else none

/-- The kind code of a station frame's body (Table 11-10). -/
def StationBody.code : StationBody → BitVec 4
  | .ack => 8
  | .data _ => 9
  | .reject _ _ => 10
  | .ident _ _ _ => 11

/-- The body bytes of a station frame (Table 2-1, Table 11-10). -/
def StationBody.bytes : StationBody → List Byte
  | .ack => []
  | .data d => d
  | .reject c e => [rejectByte c, e.setWidth 8]
  | .ident c r w => [hiByte c, loByte c, r, w]

/-- Header and body of a station frame (R163): bit 7 of the first byte is the attention flag. -/
def StationFrame.headerAndBody (f : StationFrame) : List Byte :=
  (bif f.attention then 0x80#8 ||| f.body.code.setWidth 8 else f.body.code.setWidth 8)
    :: f.seq.setWidth 8 :: BitVec.ofNat 8 f.body.bytes.length :: f.body.bytes

/-- The bytes of a station frame on the line. -/
def StationFrame.bytes (f : StationFrame) : List Byte := framed f.headerAndBody

/-- A station frame whose length and body fields the receiver accepts (R32, R34): the others are malformed. -/
def StationFrame.good (f : StationFrame) : Bool :=
  match f.body with
  | .ack => true
  | .data d => dataLengthAllowed d
  | .reject _ _ => true
  | .ident _ _ w => identWindowAllowed w

/-! ## The receiver -/

/-- What the receiver makes of a frame when it returns to HUNT (R32 to R34). -/
inductive Reception where
  | malformed
  | crcError
  | good (frame : StationFrame)
deriving DecidableEq, Repr

/-- The number of body bytes a header calls for, or none where its length is not allowed for its kind (R21, R32). -/
def StationKind.bodyBytes (k : StationKind) (length : Byte) : Option Nat :=
  match k with
  | .ack => if length.toNat = 0 then some 0 else none
  | .data => if 1 ≤ length.toNat ∧ length.toNat ≤ 16 then some length.toNat else none
  | .reject => if length.toNat = 2 then some 2 else none
  | .ident => if length.toNat = 4 then some 4 else none

/-- The check of a header's three bytes (R32, R163): bits 6 to 4 of the first are ignored. -/
def parseHeader (b0 b1 b2 : Byte) : Option Header :=
  match StationKind.ofCode (b0.extractLsb' 0 4) with
  | none => none
  | some k =>
    if 16 ≤ b1.toNat then none
    else match k.bodyBytes b2 with
      | none => none
      | some n => some ⟨[b0, b1, b2], b0.getLsbD 7, k, b1.extractLsb' 0 4, n⟩

/-- The check of a frame's body fields once its CRC has passed (R34). -/
def parseBody (k : StationKind) (body : List Byte) : Option StationBody :=
  match k, body with
  | .ack, _ => some .ack
  | .data, d => some (.data d)
  | .reject, [c, e] =>
    match rejectOfByte c with
    | none => none
    | some cause => if 16 ≤ e.toNat then none else some (.reject cause (e.extractLsb' 0 4))
  | .ident, [c1, c0, r, w] => if identWindowAllowed w then some (.ident (c1 ++ c0) r w) else none
  | _, _ => none

/-- What the end of CHECK makes of a frame (R33, R34). -/
def concludeFrame (h : Header) (body : List Byte) (c1 c0 : Byte) : Reception :=
  if crc (h.raw ++ body) = c1 ++ c0 then
    match parseBody h.kind body with
    | none => .malformed
    | some b => .good ⟨h.attention, h.seq, b⟩
  else .crcError

/-- Where the receiver goes once a header has passed: to BODY, or to CHECK at once when there is no body (R32). -/
def enterBody (h : Header) : Receiver := if h.bodyBytes = 0 then .check h [] [] else .body h []

/-- One byte of HUNT (R31). -/
def huntByte (armed : Bool) (b : Byte) : Receiver :=
  if armed && b == Config.sync1 then .header [] else .hunt (b == Config.sync0)

/-- One byte taken by the receiver (Table 2-4): its next phase, and what it makes of a frame that ends with the byte. -/
def receiveByte (r : Receiver) (b : Byte) : Receiver × Option Reception :=
  match r with
  | .hunt armed => (huntByte armed b, none)
  | .header [b0, b1] =>
    match parseHeader b0 b1 b with
    | none => (.hunt false, some .malformed)
    | some h => (enterBody h, none)
  | .header taken => (.header (taken ++ [b]), none)
  | .body h taken =>
    if taken.length + 1 < h.bodyBytes then (.body h (taken ++ [b]), none) else (.check h (taken ++ [b]) [], none)
  | .check h body [c1] => (.hunt false, some (concludeFrame h body c1 b))
  | .check h body taken => (.check h body (taken ++ [b]), none)

/-- A run of bytes taken by the receiver: its phase after them and what it made of them, in order. -/
def receiveBytes (r : Receiver) : List Byte → Receiver × List Reception
  | [] => (r, [])
  | b :: bs =>
    let (r', got) := receiveByte r b
    let (r'', more) := receiveBytes r' bs
    (r'', got.toList ++ more)

/-- The receiver is in HUNT, where a loss of carrier counts nothing (R35). -/
def Receiver.hunting : Receiver → Bool
  | .hunt _ => true
  | _ => false

end Sys2Proof.Machine
end

