-- ==== Sys2Proof/Machine/Operands.lean ====
section
/-! DEFINITION. What a host access names: the register at each offset of the register window (R157) and its fields (R161,
R162), the window that an address wins and the remote address it becomes (R101 to R103), and byte ranges. -/

namespace Sys2Proof.Machine

/-! ## The register map (Tables 11-1 and 11-2) -/

/-- The registers of a port, in the order of their offsets (Table 11-2). -/
inductive PortReg where
  | control
  | status
  | linkStatus
  | identity
  | queueStatus
  | configA
  | configB
  | mirrorLost
  | postedIn
  | postedDone
  | postedDrop
  | crcErrors
  | malformedFrames
  | retransmissions
  | staleResponses
  | probeAttempts
deriving DecidableEq, Repr

/-- The registers of the register window (Table 11-1). -/
inductive Reg where
  | identity
  | globalControl
  | timestamp
  | eventControl
  | eventStatus
  | classMask
  | interruptControl
  | eventHead (word : Fin 4)
  | discardTime
  | refusals
  | invalidations
  | slotStatus (slot : SlotId) (word : Fin 3)
  | windowControl (entry : EntryId)
  | windowBase (entry : EntryId)
  | windowRemote (entry : EntryId)
  | requestControl (slot : SlotId)
  | requestRemote (slot : SlotId)
  | requestCommand (slot : SlotId)
  | requestStatus (slot : SlotId)
  | requestData (slot : SlotId) (index : Fin 4)
  | port (port : PortId) (reg : PortReg)
deriving DecidableEq, Repr

/-- The offset of a port register within its port's block (Table 11-2). -/
def PortReg.offset : PortReg → Nat
  | .control => 0x00
  | .status => 0x04
  | .linkStatus => 0x08
  | .identity => 0x0C
  | .queueStatus => 0x10
  | .configA => 0x14
  | .configB => 0x18
  | .mirrorLost => 0x1C
  | .postedIn => 0x20
  | .postedDone => 0x24
  | .postedDrop => 0x28
  | .crcErrors => 0x2C
  | .malformedFrames => 0x30
  | .retransmissions => 0x34
  | .staleResponses => 0x38
  | .probeAttempts => 0x3C

/-- The offset of a register in the register window (Table 11-1). -/
def Reg.offset : Reg → Nat
  | .identity => 0x000
  | .globalControl => 0x004
  | .timestamp => 0x008
  | .eventControl => 0x010
  | .eventStatus => 0x014
  | .classMask => 0x018
  | .interruptControl => 0x01C
  | .eventHead k => 0x020 + 4 * k.val
  | .discardTime => 0x040
  | .refusals => 0x044
  | .invalidations => 0x048
  | .slotStatus s w => 0x060 + 0x10 * s.val + 4 * w.val
  | .windowControl e => 0x100 + 0x10 * e.val
  | .windowBase e => 0x104 + 0x10 * e.val
  | .windowRemote e => 0x108 + 0x10 * e.val
  | .requestControl q => 0x1C0 + 0x20 * q.val
  | .requestRemote q => 0x1C4 + 0x20 * q.val
  | .requestCommand q => 0x1C8 + 0x20 * q.val
  | .requestStatus q => 0x1CC + 0x20 * q.val
  | .requestData q k => 0x1D0 + 0x20 * q.val + 4 * k.val
  | .port p r => 0x300 + 0x40 * p.val + r.offset

/-- The port register at a word of its port's block: Table 11-2 assigns all sixteen. -/
def portRegAt (word : Nat) : PortReg :=
  match word with
  | 0 => .control
  | 1 => .status
  | 2 => .linkStatus
  | 3 => .identity
  | 4 => .queueStatus
  | 5 => .configA
  | 6 => .configB
  | 7 => .mirrorLost
  | 8 => .postedIn
  | 9 => .postedDone
  | 10 => .postedDrop
  | 11 => .crcErrors
  | 12 => .malformedFrames
  | 13 => .retransmissions
  | 14 => .staleResponses
  | _ => .probeAttempts

/-- The register among the single ones below offset 0x060, by word. -/
def lowRegAt (word : Nat) : Option Reg :=
  match word with
  | 0 => some .identity
  | 1 => some .globalControl
  | 2 => some .timestamp
  | 4 => some .eventControl
  | 5 => some .eventStatus
  | 6 => some .classMask
  | 7 => some .interruptControl
  | 8 => some (.eventHead 0)
  | 9 => some (.eventHead 1)
  | 10 => some (.eventHead 2)
  | 11 => some (.eventHead 3)
  | 16 => some .discardTime
  | 17 => some .refusals
  | 18 => some .invalidations
  | _ => none

/-- The register at an offset; none where the offset is unassigned (R157). -/
def regAt (offset : BitVec 10) : Option Reg :=
  let o := offset.toNat
  if o % 4 != 0 then none
  else if o < 0x060 then lowRegAt (o / 4)
  else if o < 0x0A0 then
    let s := Fin.ofNat 4 ((o - 0x060) / 0x10)
    match (o % 0x10) / 4 with
    | 0 => some (.slotStatus s 0)
    | 1 => some (.slotStatus s 1)
    | 2 => some (.slotStatus s 2)
    | _ => none
  else if o < 0x100 then none
  else if o < 0x1C0 then
    let e := Fin.ofNat 12 ((o - 0x100) / 0x10)
    match (o % 0x10) / 4 with
    | 0 => some (.windowControl e)
    | 1 => some (.windowBase e)
    | 2 => some (.windowRemote e)
    | _ => none
  else if o < 0x240 then
    let q := Fin.ofNat 4 ((o - 0x1C0) / 0x20)
    match ((o - 0x1C0) % 0x20) / 4 with
    | 0 => some (.requestControl q)
    | 1 => some (.requestRemote q)
    | 2 => some (.requestCommand q)
    | 3 => some (.requestStatus q)
    | k => some (.requestData q (Fin.ofNat 4 (k - 4)))
  else if o < 0x300 then none
  else some (.port (Fin.ofNat 4 ((o - 0x300) / 0x40)) (portRegAt ((o % 0x40) / 4)))

/-! ## Fields of register values (Tables 11-3 to 11-6), as read -/

/-- A small number as a two-bit field. -/
def two (n : Fin 4) : BitVec 2 := BitVec.ofNat 2 n.val

/-- A two-bit field as a small number. -/
def ofTwo (b : BitVec 2) : Fin 4 := ⟨b.toNat, b.isLt⟩

/-- The identity register (R158). -/
def identityWord (pins : BitVec 4) : Word := Config.partCode ++ Config.siliconRevision ++ pins ++ 0#4

/-- Port status (Table 11-3). -/
def Port.statusWord (p : Port) : Word := 0#22 ++ p.commandResult.code ++ 0#7 ++ p.queue.code

/-- Link status (Table 11-3). -/
def Port.linkStatusWord (p : Port) : Word :=
  0#8 ++ p.station.advertised ++ p.effectiveWindow ++ 0#1 ++ bit p.station.attention ++ bit p.station.valid ++
    bit p.carrier ++ p.lossCause.code ++ 0#1 ++ p.phase.code ++ 0#2 ++ p.link.code

/-- Station identity (Table 11-3). -/
def Port.identityWord (p : Port) : Word := 0#8 ++ p.station.revision ++ p.station.cls

/-- Queue status (R17, Table 11-3). -/
def Port.queueStatusWord (p : Port) : Word :=
  0#3 ++ BitVec.ofNat 5 p.poolCount ++ 0#3 ++ BitVec.ofNat 5 p.window.length ++
    0#3 ++ BitVec.ofNat 5 (queuedCount p.normal) ++ 0#3 ++ BitVec.ofNat 5 (queuedCount p.priority)

/-- Configuration A (Table 11-3). -/
def PortConfig.wordA (c : PortConfig) : Word :=
  c.probeInterval ++ 0#7 ++ bit c.autoReprobe ++ c.busyLimit ++ 0#1 ++ c.retryLimit ++ c.windowLimit ++ 0#1 ++ c.rate.code

/-- Configuration B (Table 11-3). -/
def PortConfig.wordB (c : PortConfig) : Word := 0#8 ++ c.backoffSteps ++ 0#8 ++ c.timeoutSteps

/-- A window entry's control word (Table 11-4). -/
def WindowEntry.controlWord (e : WindowEntry) : Word :=
  0#14 ++ bit e.writePermitted ++ bit e.readPermitted ++ 0#3 ++ e.sizeCode ++ 0#2 ++ two e.port ++ 0#2 ++ e.mode.code ++ bit e.enable

/-- A window entry's base word: the base, its lower twelve bits 0 (R100). -/
def WindowEntry.baseWord (e : WindowEntry) : Word := e.base ++ 0#12

/-- A window entry's remote word: the remote base, its lower four bits 0 (R100). -/
def WindowEntry.remoteWord (e : WindowEntry) : Word := e.remote ++ 0#4

/-- The state code of a delayed-read slot that is not FREE (Table 11-7). -/
def ReadState.code : ReadState → BitVec 2
  | .pending => 1
  | .ready _ _ => 2
  | .failed _ _ => 3

/-- The fail cause of a slot's state: none unless FAILED (R135). -/
def ReadState.failCause : ReadState → Cause
  | .failed c _ => c
  | _ => .none

/-- A delayed-read slot's status words: absent fields read as 0 (R135, Table 11-4). -/
def slotStatusWord (slot : Option ReadSlot) (word : Fin 3) : Word :=
  match slot with
  | none => 0
  | some s =>
    if word = 0 then
      0#12 ++ s.state.failCause.code ++ 0#2 ++ two s.port ++ 0#2 ++ sizeCode s.key.size ++ 0#2 ++ two s.key.master ++ 0#2 ++ s.state.code
    else if word = 1 then s.key.addr
    else s.remote

/-- A request slot's control register (Table 11-5). -/
def RequestSlot.controlWord (q : RequestSlot) : Word :=
  0#14 ++ bit q.notify ++ bit q.priorityOption ++ 0#3 ++ q.length ++ 0#3 ++ q.operation.code ++ 0#2 ++ two q.port

/-- The state code of a request slot (Table 11-7). -/
def RequestState.code : RequestState → BitVec 2
  | .idle => 0
  | .submitted => 1
  | .complete _ => 2

/-- The result of a request slot: 0 while absent (R146). -/
def RequestState.result : RequestState → Cause
  | .complete c => c
  | _ => .none

/-- A request slot's status register (R146, Table 11-5). -/
def RequestSlot.statusWord (q : RequestSlot) : Word :=
  0#14 ++ q.commandResult.code ++ 0#4 ++ q.state.result.code ++ 0#6 ++ q.state.code

/-- Byte `k` of a list, 0 past its end. -/
def byteAt (bytes : List Byte) (k : Nat) : Byte := bytes.getD k 0

/-- Word `k` of a data buffer: byte 4k in bits 31 to 24 (Table 11-5). -/
def bufferWord (buffer : Vector Byte 16) (k : Fin 4) : Word :=
  let at' := byteAt buffer.toList
  at' (4 * k.val) ++ at' (4 * k.val + 1) ++ at' (4 * k.val + 2) ++ at' (4 * k.val + 3)

/-- A buffer of sixteen bytes from a list, 0 past the list's end (R142). -/
def bufferOf (bytes : List Byte) : Vector Byte 16 :=
  let b := byteAt bytes
  #v[b 0, b 1, b 2, b 3, b 4, b 5, b 6, b 7, b 8, b 9, b 10, b 11, b 12, b 13, b 14, b 15]

/-- A data buffer with its word `k` written (Table 11-5). -/
def writeBufferWord (buffer : Vector Byte 16) (k : Fin 4) (value : Word) : Vector Byte 16 :=
  let bytes := buffer.toList
  bufferOf (bytes.take (4 * k.val) ++ wordBytes value ++ bytes.drop (4 * k.val + 4))

/-- Event status (R151, Table 11-6). -/
def EventQueue.statusWord (e : EventQueue) : Word :=
  0#6 ++ e.popResult.code ++ 0#6 ++ bit e.line ++ bit (e.holdoff == .runOut) ++ e.lost ++ 0#1 ++ BitVec.ofNat 7 e.records.length

/-- The class mask register (Table 11-6). -/
def EventQueue.maskWord (e : EventQueue) : Word := 0#23 ++ e.mask

/-- The interrupt control register (Table 11-6). -/
def EventQueue.controlWord (e : EventQueue) : Word :=
  0#8 ++ e.holdoffSteps ++ 0#1 ++ e.threshold ++ 0#7 ++ bit e.irqEnable

/-- Word 3 of an event record, by kind (Table 11-8). -/
def Detail.word : Detail → Word
  | .none => 0
  | .sequence q => 0#28 ++ q
  | .identity c r => 0#8 ++ r ++ c
  | .cls c => 0#16 ++ c
  | .returned n => 0#28 ++ BitVec.ofNat 4 n
  | .readSlot s m => 0#26 ++ two m ++ 0#2 ++ two s
  | .requestSlot s => 0#30 ++ two s
  | .counts w r q => 0#11 ++ BitVec.ofNat 5 q ++ 0#3 ++ BitVec.ofNat 5 r ++ 0#3 ++ BitVec.ofNat 5 w

/-- Word 0 of an event record (Table 11-8). -/
def EventRecord.word0 (r : EventRecord) : Word :=
  0#8 ++ r.lostBefore ++ 0#4 ++ r.offer.cause.code ++ 0#2 ++ two r.offer.port ++ BitVec.ofNat 4 r.offer.kind.code

/-- The head registers: the record at the head of the queue, 0 in every word when the queue is empty (R151, R162). -/
def EventQueue.headWord (e : EventQueue) (word : Fin 4) : Word :=
  match e.records with
  | [] => 0
  | r :: _ =>
    if word = 0 then r.word0
    else if word = 1 then r.timestamp
    else if word = 2 then r.offer.address
    else r.offer.detail.word

/-! ## Fields of register values, as written -/

/-- The configuration that a configuration A value gives, or none where a field is out of range (R98, Table 11-3). -/
def PortConfig.withA (c : PortConfig) (v : Word) : Option PortConfig :=
  match LinkRate.ofCode (v.extractLsb' 0 3) with
  | none => none
  | some rate =>
    let limit := v.extractLsb' 4 4
    let busy := v.extractLsb' 12 4
    let interval := v.extractLsb' 24 8
    if limit.toNat = 0 ∨ 8 < limit.toNat ∨ busy = 0 ∨ interval = 0 then none
    else some { c with
      rate := rate
      windowLimit := limit
      retryLimit := v.extractLsb' 8 3
      busyLimit := busy
      autoReprobe := v.getLsbD 16
      probeInterval := interval }

/-- The configuration that a configuration B value gives, or none where a step count is 0 (R98, Table 11-3). -/
def PortConfig.withB (c : PortConfig) (v : Word) : Option PortConfig :=
  let timeout := v.extractLsb' 0 8
  let backoff := v.extractLsb' 16 8
  if timeout = 0 ∨ backoff = 0 then none
  else some { c with timeoutSteps := timeout, backoffSteps := backoff }

/-- The entry whose control word is `v` and whose base and remote base are those of `e` (Table 11-4). -/
def WindowEntry.withControl (e : WindowEntry) (v : Word) : WindowEntry :=
  { e with
    enable := v.getLsbD 0
    mode := WindowMode.ofBit (v.getLsbD 1)
    port := ofTwo (v.extractLsb' 4 2)
    sizeCode := v.extractLsb' 8 5
    readPermitted := v.getLsbD 16
    writePermitted := v.getLsbD 17 }

/-- The request slot whose control register is written with `v` (Table 11-5). -/
def RequestSlot.withControl (q : RequestSlot) (v : Word) : RequestSlot :=
  { q with
    port := ofTwo (v.extractLsb' 0 2)
    operation := Operation.ofBit (v.getLsbD 4)
    length := v.extractLsb' 8 5
    priorityOption := v.getLsbD 16
    notify := v.getLsbD 17 }

/-- The command code in bits 3 to 0 of a command register (Tables 11-3, 11-5, 11-6). -/
def commandCode (v : Word) : BitVec 4 := v.extractLsb' 0 4

/-! ## Windows -/

/-- The size of an entry's window in bytes: 4 KiB × 2^n (Table 6-1). -/
def WindowEntry.sizeBytes (e : WindowEntry) : Nat := 4096 * 2 ^ e.sizeCode.toNat

/-- The base is a multiple of the window's size (R105). -/
def WindowEntry.baseAligned (e : WindowEntry) : Bool := e.baseWord.toNat % e.sizeBytes == 0

/-- An enabled entry matches an address that lies in its window (R101). -/
def WindowEntry.covers (e : WindowEntry) (addr : Word) : Bool :=
  e.enable && e.baseWord.toNat ≤ addr.toNat && addr.toNat < e.baseWord.toNat + e.sizeBytes

/-- The remote address an entry translates an address to, modulo 2^32 (R102). -/
def WindowEntry.translate (e : WindowEntry) (addr : Word) : Word := e.remoteWord + (addr - e.baseWord)

/-- The result of a lookup that an entry wins (R103). -/
structure Hit where
  entry : EntryId
  mode : WindowMode
  port : PortId
  remote : Word
  readPermitted : Bool
  writePermitted : Bool
deriving DecidableEq, Repr

/-- The numbers of the window entries, lowest first. -/
def entryNumbers : List EntryId := [0, 1, 2, 3, 4, 5, 6, 7, 8, 9, 10, 11]

/-- The lookup of an address: the matching entry of lowest index wins (R101, R103). -/
def lookup (windows : Vector WindowEntry 12) (addr : Word) : Option Hit :=
  match entryNumbers.find? (fun e => windows[e].covers addr) with
  | none => none
  | some e =>
    let w := windows[e]
    some ⟨e, w.mode, w.port, w.translate addr, w.readPermitted, w.writePermitted⟩

/-- The register window's base for a sampled pin value (R156). -/
def registerBase (pins : BitVec 4) : Nat := Config.registerWindowBase + pins.toNat * Config.registerWindowStride

/-- An address lies in the register window (R156). -/
def inRegisterWindow (pins : BitVec 4) (addr : Word) : Bool :=
  registerBase pins ≤ addr.toNat && addr.toNat < registerBase pins + Config.registerWindowSize

/-! ## Byte ranges, keys and host data -/

/-- Two byte ranges share at least one byte (R11). -/
def overlaps (a : Word) (n : Nat) (b : Word) (m : Nat) : Bool :=
  a.toNat < b.toNat + m && b.toNat < a.toNat + n

/-- The fields of a request are valid for submission: length 1 to 16, and a remote range that does not pass 0xFFFFFFFF
(R139). -/
def RequestSlot.valid (q : RequestSlot) : Bool :=
  1 ≤ q.length.toNat && q.length.toNat ≤ 16 && q.remote.toNat + q.length.toNat ≤ 2 ^ 32

/-- A window access as the register window takes it: only a 4-byte single reaches a register (Table 7-2). -/
def toRegAccess : AccessKind → RegAccess
  | .read .one => .wrongSize .read .one
  | .read .two => .wrongSize .read .two
  | .read .four => .read4
  | .read .sixteen => .wrongSize .read .sixteen
  | .write (.one _) => .wrongSize .write .one
  | .write (.two _ _) => .wrongSize .write .two
  | .write (.four b) => .write4 (Config.registerWordOfBytes b)
  | .write (.burst _ _ _ _) => .wrongSize .write .sixteen

end Sys2Proof.Machine
end

