-- ==== Sys2Proof/Machine/Ops.lean ====
section
/-! DEFINITION. The shared operations: reading and writing the parts of the state, the event queue, the producers' slots, the
port transaction queue, the transmitter arbiter, the sequencer, the link controller, the fault hold, the receiver and the two
resets. Each says once what it does; the meanings of the commands call them. -/

namespace Sys2Proof.Machine

/-! ## Parts of the state -/

/-- Port `p`. -/
def State.port (s : State) (p : PortId) : Port := s.ports[p]

/-- The state with port `p` replaced. -/
def State.setPort (s : State) (p : PortId) (q : Port) : State := { s with ports := s.ports.set p.val q p.isLt }

/-- The state with `f` applied to port `p`. -/
def State.modPort (s : State) (p : PortId) (f : Port → Port) : State := s.setPort p (f (s.port p))

/-- Window entry `e`. -/
def State.window (s : State) (e : EntryId) : WindowEntry := s.windows[e]

/-- The state with window entry `e` replaced. -/
def State.setWindow (s : State) (e : EntryId) (w : WindowEntry) : State := { s with windows := s.windows.set e.val w e.isLt }

/-- Delayed-read slot `n`; none when it is FREE. -/
def State.readSlot (s : State) (n : SlotId) : Option ReadSlot := s.reads.slots[n]

/-- The DRU with slot `n` replaced. -/
def DelayedReads.setSlot (d : DelayedReads) (n : SlotId) (x : Option ReadSlot) : DelayedReads :=
  { d with slots := d.slots.set n.val x n.isLt }

/-- The state with its DRU replaced. -/
def State.setReads (s : State) (d : DelayedReads) : State := { s with reads := d }

/-- The state with delayed-read slot `n` replaced. -/
def State.setReadSlot (s : State) (n : SlotId) (x : Option ReadSlot) : State := s.setReads (s.reads.setSlot n x)

/-- Request slot `n`. -/
def State.request (s : State) (n : SlotId) : RequestSlot := s.requests[n]

/-- The state with request slot `n` replaced. -/
def State.setRequest (s : State) (n : SlotId) (q : RequestSlot) : State := { s with requests := s.requests.set n.val q n.isLt }

/-- The state with its event queue replaced. -/
def State.setEvents (s : State) (e : EventQueue) : State := { s with events := e }

/-- The state with its host bus target replaced. -/
def State.setTarget (s : State) (t : HostTarget) : State := { s with target := t }

/-- The state with the answer to the access just presented. -/
def State.withAnswer (s : State) (a : Answer) : State := { s with answer := a }

/-- The numbers of the ports, or of the slots, lowest first. -/
def fourNumbers : List (Fin 4) := [0, 1, 2, 3]

/-! ## Event queue -/

/-- A kind is enabled by its bit of the class mask (R149). -/
def EventQueue.enables (e : EventQueue) (k : EventKind) : Bool := e.mask.getLsbD (k.code - 1)

/-- An offered record is masked, written to the tail with its timestamp and lost-before, or lost (R149, R150). -/
def EventQueue.offer (e : EventQueue) (now : Nat) (o : Offer) : EventQueue :=
  if !e.enables o.kind then e
  else if e.records.length < Config.eventQueueSize then
    EventQueue.judged { e with
      records := e.records ++ [⟨o, e.lost, e.timestamp⟩]
      lost := 0
      holdoff := if e.records.isEmpty then e.holdoffStart now else e.holdoff }
  else { e with lost := satSucc8 e.lost }

/-- A producer offers a record (R149). -/
def State.offer (s : State) (o : Offer) : State := s.setEvents (s.events.offer s.now o)

/-- POP (R151, R153): the head record is removed, and the holdoff timer restarts or stops; on an empty queue, IGNORED. -/
def EventQueue.pop (e : EventQueue) (now : Nat) : EventQueue :=
  match e.records with
  | [] => { e with popResult := .ignored }
  | _ :: rest =>
    EventQueue.judged { e with
      records := rest
      popResult := .done
      holdoff := if rest.isEmpty then .stopped else e.holdoffStart now }

/-! ## Outcomes of records -/

/-- How a record leaves the pool, for its producer (Table 3-4, R15): completed OK with the data of a read, completed refused,
failed at exhaustion, or removed from its queue with a cause. -/
inductive Leaving where
  | ok (data : List Byte)
  | refused (cause : Cause) (seq : Seq)
  | failed (cause : Cause) (seq : Seq)
  | removed (cause : Cause)
deriving DecidableEq, Repr

/-- The event a request slot with its notify option set offers when it becomes COMPLETE (R143). -/
def requestDone (q : RequestSlot) (n : SlotId) (result : Cause) : Offer :=
  ⟨.requestDone, q.port, result, 0, .requestSlot n⟩

/-- The event of a posted write refused or failed (R62). -/
def writeFault (p : PortId) (r : Record) (cause : Cause) (seq : Seq) : Offer :=
  ⟨.writeFault, p, cause, r.remote, .sequence seq⟩

/-- Request slot `n` becomes COMPLETE with a result, and REQUEST_DONE is offered if its notify option is 1 (R142, R143). -/
def State.completeRequest (s : State) (n : SlotId) (result : Cause) (buffer : Vector Byte 16) : State :=
  let q := s.request n
  let s' := s.setRequest n { q with state := .complete result, buffer := buffer }
  if q.notify then s'.offer (requestDone q n result) else s'

/-- A SUBMITTED request slot takes the outcome of its record (R142, R144). -/
def State.settleRequest (s : State) (n : SlotId) (operation : Operation) (l : Leaving) : State :=
  let q := s.request n
  if q.state = .submitted then
    match l with
    | .ok data => s.completeRequest n .ok (if operation = .read then bufferOf data else q.buffer)
    | .refused c _ => s.completeRequest n c q.buffer
    | .failed c _ => s.completeRequest n c q.buffer
    | .removed c => s.completeRequest n c q.buffer
  else s

/-- The state a PENDING slot takes from the outcome of its record (Table 8-4). -/
def ReadState.ofLeaving (l : Leaving) (deadline : Nat) : ReadState :=
  match l with
  | .ok data => .ready data deadline
  | .refused c _ => .failed c deadline
  | .failed c _ => .failed c deadline
  | .removed c => .failed c deadline

/-- A PENDING delayed-read slot takes the outcome of its record, and its discard timer starts (R129). -/
def State.settleRead (s : State) (n : SlotId) (l : Leaving) : State :=
  match s.readSlot n with
  | some slot =>
    if slot.state = .pending then
      s.setReadSlot n (some { slot with state := ReadState.ofLeaving l (s.reads.deadline s.now) })
    else s
  | none => s

/-- The posted-write counters take the outcome of a POSTED record (R16). -/
def Port.countPosted (q : Port) (l : Leaving) : Port :=
  match l with
  | .ok _ => { q with postedDone := q.postedDone + 1 }
  | .refused _ _ => { q with postedDrop := q.postedDrop + 1 }
  | .failed _ _ => { q with postedDrop := q.postedDrop + 1 }
  | .removed _ => { q with postedDrop := q.postedDrop + 1 }

/-- A POSTED record's outcome: counted, and WRITE_FAULT offered where it completes refused or failed (R62). -/
def State.settlePosted (s : State) (p : PortId) (r : Record) (l : Leaving) : State :=
  let s' := s.modPort p (·.countPosted l)
  match l with
  | .ok _ => s'
  | .refused c q => s'.offer (writeFault p r c q)
  | .failed c q => s'.offer (writeFault p r c q)
  | .removed _ => s'

/-- A record's producer is given its outcome (Table 3-4, R15). -/
def State.settle (s : State) (p : PortId) (r : Record) (l : Leaving) : State :=
  match r.source with
  | .posted => s.settlePosted p r l
  | .read n => s.settleRead n l
  | .request n => s.settleRequest n r.operation l

/-- Records removed from a queue give their producers their outcome in the order of the list (R85, R90, R95). -/
def State.settleAll (s : State) (p : PortId) (cause : Cause) (records : List Record) : State :=
  records.foldl (fun s r => s.settle p r (.removed cause)) s

/-! ## The port transaction queue -/

/-- Why the PTQ refuses a record (Table 1-7): Rs for port state, Rr for want of room. -/
inductive Refused where
  | portState
  | noRoom
deriving DecidableEq, Repr

/-- The port state refuses a source (Table 1-7): a delayed read needs the link UP and the queue RUN, every other request a link
that is not OFF. -/
def Port.refusesState (q : Port) (source : Source) : Bool :=
  match source with
  | .read _ => !q.flowing
  | .posted => q.link == .off
  | .request _ => q.link == .off

/-- The conditions of Table 1-7 for a source: a delayed read needs the link UP and the queue RUN, every other request a link
that is not OFF, and all of them room. None when the record may be made. -/
def Port.refusal (q : Port) (source : Source) : Option Refused :=
  if q.refusesState source then some .portState
  else if !q.hasRoom then some .noRoom
  else none

/-- A record joins the tail of its lane (R4). -/
def Port.join (q : Port) (r : Record) : Port :=
  match r.lane with
  | .priority => { q with priority := q.priority ++ [r] }
  | .normal => { q with normal := q.normal ++ [r] }

/-- The record of a posted write (R6). -/
def postedRecord (remote : Word) (data : WriteData) : Record :=
  ⟨.normal, .posted, .write, remote, data.size.bytes, data.bytes, false⟩

/-- The RESERVED record of a mirror reservation: its data is absent (R7). -/
def reservedRecord (remote : Word) (data : WriteData) : Record :=
  ⟨.normal, .posted, .write, remote, data.size.bytes, [], true⟩

/-- The READ record of a delayed read (R9). -/
def readRecord (slot : SlotId) (remote : Word) (size : Size) : Record :=
  ⟨.normal, .read slot, .read, remote, size.bytes, [], false⟩

/-- The record of an explicit request (R10). -/
def requestRecord (n : SlotId) (q : RequestSlot) : Record :=
  ⟨if q.priorityOption then .priority else .normal, .request n, q.operation, q.remote, q.length.toNat,
    match q.operation with
    | .write => q.buffer.toList.take q.length.toNat
    | .read => [], false⟩

/-- A READY slot of the port whose bytes overlap a write's is invalidated (R11). -/
def ReadSlot.invalidatedBy (slot : ReadSlot) (p : PortId) (r : Record) : Bool :=
  match slot.state with
  | .ready _ _ => slot.port == p && overlaps slot.remote slot.key.size.bytes r.remote r.length
  | _ => false

/-- The invalidation check at one slot: an invalidated slot becomes FREE and the invalidation counter rises (R11, R131). -/
def DelayedReads.invalidateSlot (d : DelayedReads) (p : PortId) (r : Record) (n : SlotId) : DelayedReads :=
  match d.slots[n] with
  | some slot =>
    if slot.invalidatedBy p r then { d.setSlot n none with invalidations := satSucc16 d.invalidations } else d
  | none => d

/-- The invalidation check: a WRITE record that joins a lane of port `p` is held against every slot (R11). -/
def DelayedReads.invalidate (d : DelayedReads) (p : PortId) (r : Record) : DelayedReads :=
  fourNumbers.foldl (fun d n => d.invalidateSlot p r n) d

/-- The state after the invalidation check (R11). -/
def State.invalidate (s : State) (p : PortId) (r : Record) : State := s.setReads (s.reads.invalidate p r)

/-! ## The transmitter and its arbiter -/

/-- The earliest record of the resend run that is still OUTSTANDING (R25, candidate 1). -/
def Port.nextResend (q : Port) : Option Sent :=
  q.resendRun.findSome? (fun n => q.window.find? (fun w => w.seq == n))

/-- The send window is below the effective window (Table 1-8). -/
def Port.windowOpen (q : Port) : Bool := q.window.length < q.effectiveWindow.toNat

/-- The head of the PRIORITY lane, if it is eligible while the link is UP (R12). -/
def Port.priorityHead (q : Port) : Option Record :=
  match q.priority with
  | r :: _ => if q.windowOpen && r.queued then some r else none
  | [] => none

/-- The head of the NORMAL lane, if it is eligible while the link is UP: the queue RUN, and not RESERVED (R12). -/
def Port.normalHead (q : Port) : Option Record :=
  match q.normal with
  | r :: _ => if q.queue == .run && q.windowOpen && r.queued then some r else none
  | [] => none

/-- A record taken from its lane is issued: OUTSTANDING at the young end of the window with the next sequence number and zero
counts, its frame begun (R13, R26, R41). -/
def Port.issue (q : Port) (r : Record) : Port :=
  { q with
    window := q.window ++ [⟨r, q.nextSeq, 0, 0⟩]
    nextSeq := q.nextSeq + 1
    transmitter := some ⟨r.frame q.nextSeq, false⟩ }

/-- The resend of a record of the run begins: it leaves the run, its frame is marked a resend, and the retransmission counter
rises (R26, R45). -/
def Port.beginResend (q : Port) (w : Sent) : Port :=
  { q with
    resendRun := q.resendRun.filter (· != w.seq)
    transmitter := some ⟨w.record.frame w.seq, true⟩
    retransmissions := satSucc16 q.retransmissions }

/-- A due probe begins on the line (R69). -/
def Port.beginProbe (q : Port) : Port :=
  { q with
    phase := .sending
    probeSeq := some q.nextSeq
    transmitter := some ⟨.probe q.nextSeq, false⟩ }

/-- The arbiter's choice when the transmitter is free (R25): the link state and the backoff decide which candidates exist, and
the first of them begins. -/
def Port.choose (q : Port) : Port :=
  match q.link with
  | .off => q
  | .lost => q
  | .probing => if q.phase = .due then q.beginProbe else q
  | .up =>
    if q.backoff.isSome then q
    else match q.nextResend with
      | some w => q.beginResend w
      | none =>
        match q.priorityHead with
        | some r => Port.issue { q with priority := q.priority.tail } r
        | none =>
          match q.normalHead with
          | some r => Port.issue { q with normal := q.normal.tail } r
          | none => q

/-- The arbiter chooses whenever the transmitter is free and a candidate exists (R25); a frame in transmission is never
preempted. -/
def Port.arbitrate (q : Port) : Port := if q.transmitter.isSome then q else q.choose

/-- The arbiter of port `p` chooses (R25). -/
def State.arbitrate (s : State) (p : PortId) : State := s.modPort p Port.arbitrate

/-! ## The fault hold -/

/-- The hold removal takes this record: a QUEUED READ record (R85). -/
def Record.heldBack (r : Record) : Bool :=
  match r.source with
  | .read _ => r.queued
  | _ => false

/-- The queue of a port becomes HELD, and its QUEUED READ records leave the NORMAL lane (R84, R85). -/
def Port.hold (q : Port) : Port := { q with queue := .held, normal := q.normal.filter (fun r => !r.heldBack) }

/-- The FHC makes the queue HELD and carries out the hold removal: the slot of each READ record removed fails with HELD
(R84, R85). -/
def State.hold (s : State) (p : PortId) : State :=
  let taken := (s.port p).normal.filter Record.heldBack
  (s.modPort p Port.hold).settleAll p .held taken

/-! ## The sequencer -/

/-- A record as it is returned to a lane: QUEUED, its sequence and counts absent (R14). -/
def Sent.returned (w : Sent) : Record := w.record

/-- The outstanding records go back to the fronts of their own lanes, oldest first (R14). -/
def Port.returnWindow (q : Port) : Port :=
  let back := q.window.map Sent.returned
  { q with
    priority := back.filter (fun r => r.lane == .priority) ++ q.priority
    normal := back.filter (fun r => r.lane == .normal) ++ q.normal
    window := [] }

/-- The resend run and the busy backoff are cleared and the response timer stopped (R57, R59, R60). -/
def Port.clearSequencer (q : Port) : Port := { q with resendRun := [], backoff := none, responseTimer := none }

/-- The link controller's part of an entry to LOST (R74): the cause, and the re-probe interval if auto re-probe is on. -/
def Port.becomeLost (q : Port) (cause : Cause) (now : Nat) : Port :=
  { q with
    link := .lost
    lossCause := cause
    probeTimer := if q.config.autoReprobe then some (q.config.probeEnd now) else none }

/-- The link of a port goes from UP to LOST (R14, R59, R74, R84): the outstanding records return to their lanes, LINK_LOST is
offered with their number, and the queue becomes HELD with its hold removal. -/
def State.loseLink (s : State) (p : PortId) (cause : Cause) : State :=
  let returned := (s.port p).window.length
  let s := s.modPort p (fun q => (q.returnWindow.clearSequencer).becomeLost cause s.now)
  let s := s.offer ⟨.linkLost, p, cause, 0, .returned returned⟩
  s.hold p

/-- The oldest record leaves the send window and the pool (R61). -/
def Port.dropOldest (q : Port) : Port := { q with window := q.window.tail }

/-- Exhaustion (R57): the oldest fails with the cause, and the link becomes LOST with it. -/
def State.exhaust (s : State) (p : PortId) (oldest : Sent) (cause : Cause) : State :=
  let s := s.modPort p Port.dropOldest
  let s := s.settle p oldest.record (.failed cause oldest.seq)
  s.loseLink p cause

/-- A resend run begins, or begins again: it holds every outstanding record from the oldest (R45, R46). -/
def Port.beginRun (q : Port) : Port := { q with resendRun := q.window.map Sent.seq }

/-- The retry count of the oldest record rises by one (R56). -/
def Port.raiseRetry (q : Port) : Port :=
  match q.window with
  | w :: rest => { q with window := { w with retry := w.retry + 1 } :: rest }
  | [] => q

/-- The retry count of the oldest is raised and a resend run begins, or the count is at its limit and the oldest is exhausted
with cause TIMEOUT (R56). -/
def State.retryOldest (s : State) (p : PortId) : State :=
  let q := s.port p
  match q.window with
  | [] => s
  | w :: _ =>
    if w.retry < q.config.retryLimit.toNat then (s.modPort p (fun q => q.raiseRetry.beginRun)).arbitrate p
    else s.exhaust p w .timeout

/-- The busy count of the oldest rises by one, and busy backoff begins: the response timer stops and the run is cleared
(R54, R56). -/
def Port.beginBackoff (q : Port) (now : Nat) : Port :=
  match q.window with
  | w :: rest =>
    { q with
      window := { w with busy := w.busy + 1 } :: rest
      responseTimer := none
      resendRun := []
      backoff := some (q.config.backoffEnd now) }
  | [] => q

/-- A busy refusal of the oldest (R54): backoff begins, or the oldest is exhausted with cause BUSY. -/
def State.busyRefusal (s : State) (p : PortId) : State :=
  let q := s.port p
  match q.window with
  | [] => s
  | w :: _ =>
    if w.busy < q.config.busyLimit.toNat then s.modPort p (·.beginBackoff s.now)
    else s.exhaust p w .busy

/-- The sequencer's part of a completion, once the oldest has left (R61, steps 2 to 4): it leaves the run; the response timer
restarts for the new oldest or stops; an active backoff is cancelled, and a run begins if records remain. -/
def Port.afterCompletion (q : Port) (done : Seq) (now : Nat) : Port :=
  let q := { q with
    resendRun := q.resendRun.filter (· != done)
    responseTimer := if q.window.isEmpty then none else some (q.config.timeoutEnd now) }
  if q.backoff.isSome then Port.beginRun { q with backoff := none } else q

/-- A POSTED record refused by the station makes the queue HELD (R53, R84). -/
def Leaving.holds (l : Leaving) (r : Record) : Bool :=
  match l with
  | .refused _ _ => r.source == .posted
  | _ => false

/-- A completion of the oldest record other than failure at exhaustion (R61, R62). -/
def State.complete (s : State) (p : PortId) (oldest : Sent) (l : Leaving) : State :=
  let s := s.modPort p Port.dropOldest
  let s := s.settle p oldest.record l
  let s := if l.holds oldest.record then s.hold p else s
  let s := s.modPort p (·.afterCompletion oldest.seq s.now)
  s.arbitrate p

/-- A response that is counted stale (R48, R71). -/
def Port.countStale (q : Port) : Port := { q with staleResponses := satSucc16 q.staleResponses }

/-- A stale response (R48). -/
def State.stale (s : State) (p : PortId) : State := s.modPort p Port.countStale

/-- An out-of-order response (R49): counted, and, with no resend run active, a retry of the oldest. -/
def State.outOfOrder (s : State) (p : PortId) : State :=
  if (s.port p).resendRun.isEmpty then (s.stale p).retryOldest p else s.stale p

/-- A protocol error (R52, R55). -/
def State.protocolError (s : State) (p : PortId) : State := s.loseLink p .protocol

/-- A sequence is that of an outstanding record (R40). -/
def Port.outstanding (q : Port) (r : Seq) : Bool := q.window.any (fun w => w.seq == r)

/-- A response that names the record of sequence `r` (Table 3-2): stale, out of order, or `act` on the oldest. -/
def State.respond (s : State) (p : PortId) (r : Seq) (act : Sent → State) : State :=
  let q := s.port p
  if q.link != .up then s.stale p
  else match q.window with
    | [] => s.stale p
    | oldest :: _ =>
      if oldest.seq = r then act oldest
      else if !q.outstanding r then s.stale p
      else if q.backoff.isSome then s.stale p
      else s.outOfOrder p

/-- A good ACK frame at the sequencer (Table 3-2, R51, R52). -/
def State.ackResponse (s : State) (p : PortId) (r : Seq) : State :=
  s.respond p r fun oldest =>
    match oldest.record.operation with
    | .write => s.complete p oldest (.ok [])
    | .read => s.protocolError p

/-- A good DATA frame at the sequencer (Table 3-2, R51, R52). -/
def State.dataResponse (s : State) (p : PortId) (r : Seq) (data : List Byte) : State :=
  s.respond p r fun oldest =>
    match oldest.record.operation with
    | .read => if data.length = oldest.record.length then s.complete p oldest (.ok data) else s.protocolError p
    | .write => s.protocolError p

/-- A REJECT SEQUENCE frame at the sequencer (R55), judged by its expected sequence `e`. -/
def State.sequenceRefusal (s : State) (p : PortId) (e : Seq) : State :=
  let q := s.port p
  if q.link != .up then s.stale p
  else if q.backoff.isSome then s.stale p
  else if q.outstanding e then s.retryOldest p
  else s.protocolError p

/-- A good REJECT frame at the sequencer (Table 3-2, R53 to R55). -/
def State.rejectResponse (s : State) (p : PortId) (r : Seq) (cause : RejectCause) (e : Seq) : State :=
  match cause with
  | .sequence => s.sequenceRefusal p e
  | .address => s.respond p r fun oldest => s.complete p oldest (.refused .address oldest.seq)
  | .denied => s.respond p r fun oldest => s.complete p oldest (.refused .denied oldest.seq)
  | .busy => s.respond p r fun _ => if (s.port p).backoff.isSome then s.stale p else s.busyRefusal p

/-! ## The link controller -/

/-- A probe falls due (R68): with carrier present the phase is DUE; with carrier absent the probe is skipped and the phase is
RESTING for one probe interval. -/
def Port.probeFallsDue (q : Port) (now : Nat) : Port :=
  if q.carrier then { q with phase := .due, probeTimer := none }
  else { q with phase := .resting, probeTimer := some (q.config.probeEnd now) }

/-- A port enters PROBING (R67, R76): the probe sequence is none, and a probe falls due. -/
def Port.enterProbing (q : Port) (now : Nat) : Port :=
  Port.probeFallsDue { q with link := .probing, probeSeq := none, probeTimer := none } now

/-- The smaller of the programmed window limit and an advertised window (R42). -/
def PortConfig.effective (c : PortConfig) (advertised : BitVec 4) : BitVec 4 :=
  if c.windowLimit.toNat ≤ advertised.toNat then c.windowLimit else advertised

/-- An accepted IDENT reports another station than the valid record (R72, step 1). -/
def Station.changedBy (t : Station) (cls : BitVec 16) (revision : Byte) : Bool :=
  t.valid && (t.cls != cls || t.revision != revision)

/-- The acceptance of an IDENT in the port's state (R72, steps 1 to 6). -/
def Port.acceptIdent (q : Port) (seq : Seq) (cls : BitVec 16) (revision : Byte) (window : Byte) : Port :=
  let advertised := window.setWidth 4
  let attention := if q.station.changedBy cls revision then false else q.station.attention
  { q with
    station := ⟨true, cls, revision, advertised, attention⟩
    effectiveWindow := q.config.effective advertised
    nextSeq := seq + 1
    probeTimer := none
    phase := .none
    probeSeq := none
    link := .up }

/-- A good IDENT frame at the link controller (R71, R72): accepted against the probe sequence while PROBING, or stale. -/
def State.identFrame (s : State) (p : PortId) (seq : Seq) (cls : BitVec 16) (revision : Byte) (window : Byte) : State :=
  let q := s.port p
  if q.link = .probing ∧ q.probeSeq = some seq then
    let s := if q.station.changedBy cls revision then s.offer ⟨.stationChanged, p, .none, 0, .cls cls⟩ else s
    let s := s.modPort p (·.acceptIdent seq cls revision window)
    let s := s.offer ⟨.linkUp, p, .none, 0, .identity cls revision⟩
    s.arbitrate p
  else s.stale p

/-- The attention latch of a port set (R78). -/
def Port.latchAttention (q : Port) : Port := { q with station := { q.station with attention := true } }

/-- The attention flag of a good frame (R78): a flag of 1 with the latch at 0 sets it and offers ATTENTION. -/
def State.takeAttention (s : State) (p : PortId) (flag : Bool) : State :=
  if flag && !(s.port p).station.attention then
    (s.modPort p Port.latchAttention).offer ⟨.attention, p, .none, 0, .none⟩
  else s

/-! ## The receiver -/

/-- The receiver takes bytes: the link is not OFF (R36) and the carrier is present (R35). -/
def Port.listening (q : Port) : Bool := q.link != .off && q.carrier

/-- The receiver returns to HUNT, unarmed (R31). -/
def Port.toHunt (q : Port) : Port := { q with receiver := .hunt false }

/-- A malformed frame is counted (R32). -/
def Port.countMalformed (q : Port) : Port := { q with malformedFrames := satSucc16 q.malformedFrames }

/-- A frame that fails its CRC check is counted (R33). -/
def Port.countCrcError (q : Port) : Port := { q with crcErrors := satSucc16 q.crcErrors }

/-- A good frame is delivered (Table 2-5): to the sequencer or the link controller by its kind, and then its attention flag to
the link controller. -/
def State.deliver (s : State) (p : PortId) (f : StationFrame) : State :=
  let s := match f.body with
    | .ack => s.ackResponse p f.seq
    | .data d => s.dataResponse p f.seq d
    | .reject c e => s.rejectResponse p f.seq c e
    | .ident c r w => s.identFrame p f.seq c r w
  s.takeAttention p f.attention

/-- What the receiver made of a frame reaches the port (R32 to R34). -/
def State.reception (s : State) (p : PortId) (r : Reception) : State :=
  match r with
  | .malformed => s.modPort p Port.countMalformed
  | .crcError => s.modPort p Port.countCrcError
  | .good f => s.deliver p f

/-- One byte of the line at port `p` (R30): ignored unless the receiver takes bytes. -/
def State.lineByte (s : State) (p : PortId) (b : Byte) : State :=
  let q := s.port p
  if q.listening then
    let (r, got) := receiveByte q.receiver b
    let s := s.modPort p (fun q => { q with receiver := r })
    match got with
    | none => s
    | some g => s.reception p g
  else s

/-- A run of bytes of the line at port `p`, in order (R30). -/
def State.lineBytes (s : State) (p : PortId) (bytes : List Byte) : State := bytes.foldl (fun s b => s.lineByte p b) s

/-- A station frame of port `p` ends its CHECK phase: the receiver returns to HUNT, and the frame is delivered if its length
and body fields are allowed and is malformed if not (R32, R34). While the receiver takes no bytes, nothing happens. -/
def State.stationFrame (s : State) (p : PortId) (f : StationFrame) : State :=
  if (s.port p).listening then
    let s := s.modPort p Port.toHunt
    s.reception p (if f.good then .good f else .malformed)
  else s

/-! ## Flush and teardown -/

/-- The records of one source kind among those removed. -/
def countPostedRecords (rs : List Record) : Nat := (rs.filter (fun r => r.source == .posted)).length

/-- The READ records among those removed. -/
def countReadRecords (rs : List Record) : Nat :=
  (rs.filter (fun r => match r.source with | .read _ => true | _ => false)).length

/-- The REQUEST records among those removed. -/
def countRequestRecords (rs : List Record) : Nat :=
  (rs.filter (fun r => match r.source with | .request _ => true | _ => false)).length

/-- The FLUSHED record of a removal (R90, R94). -/
def flushedOffer (p : PortId) (rs : List Record) : Offer :=
  ⟨.flushed, p, .none, 0, .counts (countPostedRecords rs) (countReadRecords rs) (countRequestRecords rs)⟩

/-- FLUSHED is offered if at least one record was removed (R90, R94). -/
def State.offerFlushed (s : State) (p : PortId) (rs : List Record) : State :=
  if rs.isEmpty then s else s.offer (flushedOffer p rs)

/-- The QUEUED records of both lanes, in the order FLUSH takes them (R90). -/
def Port.queuedRecords (q : Port) : List Record := q.priority.filter Record.queued ++ q.normal.filter Record.queued

/-- The lanes without their QUEUED records (R90). -/
def Port.flushLanes (q : Port) : Port :=
  { q with
    priority := q.priority.filter (fun r => !r.queued)
    normal := q.normal.filter (fun r => !r.queued) }

/-- Every record of the port that has a producer to answer, in the order DISABLE takes them (R95): outstanding, oldest first,
then the two lanes. -/
def Port.allRecords (q : Port) : List Record := q.window.map Sent.record ++ q.queuedRecords

/-- A port as DISABLE leaves it (R94, steps 1 to 5; Tables 3-1, 4-2 and 5-1), before its producers are answered: the counters,
the carrier status and the configuration keep their values. -/
def Port.tornDown (q : Port) : Port :=
  { Port.resetWith q.carrier q.config with
    postedIn := q.postedIn
    postedDone := q.postedDone
    postedDrop := q.postedDrop
    retransmissions := q.retransmissions
    staleResponses := q.staleResponses
    crcErrors := q.crcErrors
    malformedFrames := q.malformedFrames
    probeAttempts := q.probeAttempts
    mirrorLost := q.mirrorLost
    commandResult := .done }

/-! ## The two resets -/

/-- A window entry after a chip reset: disabled, every other field kept (R108). -/
def WindowEntry.disabled (w : WindowEntry) : WindowEntry := { w with enable := false }

/-- Every block at its hardware reset value (R159). The lines keep their carrier (R36); the sampled pins keep their value until
the release (R156). -/
def State.hardwareReset (s : State) : State :=
  { s with
    ports := mapFour (fun q => Port.resetWith q.carrier PortConfig.reset) s.ports
    target := HostTarget.reset
    windows := Vector.replicate 12 WindowEntry.reset
    reads := DelayedReads.resetWith 64
    requests := Vector.replicate 4 RequestSlot.reset
    events := EventQueue.resetWith 0x1FF false 1 0
    resetAsserted := true
    chipResetDue := false
    answer := .idle }

/-- The chip reset (R160): every block at its hardware reset value, but for the settings a chip reset keeps. -/
def State.chipReset (s : State) : State :=
  let e := s.events
  { s with
    ports := mapFour (fun q => Port.resetWith q.carrier q.config) s.ports
    target := HostTarget.reset
    windows := mapTwelve WindowEntry.disabled s.windows
    reads := DelayedReads.resetWith s.reads.discardSteps
    requests := Vector.replicate 4 RequestSlot.reset
    events := EventQueue.resetWith e.mask e.irqEnable e.threshold e.holdoffSteps
    chipResetDue := false }

end Sys2Proof.Machine
end

