-- ==== Sys2Proof/Machine/Registers.lean ====
section
/-! DEFINITION. What a register of the register window does when it is read and when it is written: the value and the
clear-on-read effect of every register, the setting writes, and the port, slot, event and global commands. -/

namespace Sys2Proof.Machine

/-! ## Reads -/

/-- A port register's value (R156, Tables 11-2 and 11-3); a command register reads 0. -/
def Port.readReg (q : Port) : PortReg → Word
  | .control => 0
  | .status => q.statusWord
  | .linkStatus => q.linkStatusWord
  | .identity => q.identityWord
  | .queueStatus => q.queueStatusWord
  | .configA => q.config.wordA
  | .configB => q.config.wordB
  | .mirrorLost => q.mirrorLost.setWidth 32
  | .postedIn => q.postedIn
  | .postedDone => q.postedDone
  | .postedDrop => q.postedDrop
  | .crcErrors => q.crcErrors.setWidth 32
  | .malformedFrames => q.malformedFrames.setWidth 32
  | .retransmissions => q.retransmissions.setWidth 32
  | .staleResponses => q.staleResponses.setWidth 32
  | .probeAttempts => q.probeAttempts.setWidth 32

/-- The value of a register as it stands (R156, R161, R162). -/
def State.readReg (s : State) : Reg → Word
  | .identity => identityWord s.pins
  | .globalControl => 0
  | .timestamp => s.events.timestamp
  | .eventControl => 0
  | .eventStatus => s.events.statusWord
  | .classMask => s.events.maskWord
  | .interruptControl => s.events.controlWord
  | .eventHead k => s.events.headWord k
  | .discardTime => 0#24 ++ s.reads.discardSteps
  | .refusals => s.reads.refusals.setWidth 32
  | .invalidations => s.reads.invalidations.setWidth 32
  | .slotStatus n w => slotStatusWord (s.readSlot n) w
  | .windowControl e => (s.window e).controlWord
  | .windowBase e => (s.window e).baseWord
  | .windowRemote e => (s.window e).remoteWord
  | .requestControl n => (s.request n).controlWord
  | .requestRemote n => (s.request n).remote
  | .requestCommand _ => 0
  | .requestStatus n => (s.request n).statusWord
  | .requestData n k => bufferWord (s.request n).buffer k
  | .port p r => (s.port p).readReg r

/-- A port after a read of one of its registers: a clear-on-read counter becomes 0 (R37, R63, R80, R119). -/
def Port.clearOnRead (q : Port) : PortReg → Port
  | .mirrorLost => { q with mirrorLost := 0 }
  | .crcErrors => { q with crcErrors := 0 }
  | .malformedFrames => { q with malformedFrames := 0 }
  | .retransmissions => { q with retransmissions := 0 }
  | .staleResponses => { q with staleResponses := 0 }
  | .probeAttempts => { q with probeAttempts := 0 }
  | _ => q

/-- The state after a read of a register: only a clear-on-read counter changes (R156). -/
def State.clearOnRead (s : State) : Reg → State
  | .refusals => s.setReads { s.reads with refusals := 0 }
  | .invalidations => s.setReads { s.reads with invalidations := 0 }
  | .port p r => s.modPort p (·.clearOnRead r)
  | _ => s

/-- A 4-byte read of an assigned register: ACK with the value as it stands, and its clear-on-read effect (R112). -/
def State.readAccess (s : State) (r : Reg) : State := (s.clearOnRead r).withAnswer (.ackWord (s.readReg r))

/-! ## Setting writes -/

/-- A write of configuration A (R98). -/
def State.writeConfigA (s : State) (p : PortId) (v : Word) : State :=
  match (s.port p).config.withA v with
  | none => s.withAnswer .berr
  | some c =>
    if (s.port p).link = .off then (s.modPort p (fun q => { q with config := c })).withAnswer .ack
    else s.withAnswer .berr

/-- A write of configuration B (R98). -/
def State.writeConfigB (s : State) (p : PortId) (v : Word) : State :=
  match (s.port p).config.withB v with
  | none => s.withAnswer .berr
  | some c =>
    if (s.port p).link = .off then (s.modPort p (fun q => { q with config := c })).withAnswer .ack
    else s.withAnswer .berr

/-- A control word may be written to a disabled entry (R105): a size code of 0 to 16, and, to enable, an aligned base. -/
def WindowEntry.acceptable (written : WindowEntry) : Bool :=
  written.sizeCode.toNat ≤ 16 && (!written.enable || written.baseAligned)

/-- A write of a window entry's control word (R105, R106). -/
def State.writeWindowControl (s : State) (e : EntryId) (v : Word) : State :=
  let held := s.window e
  let written := held.withControl v
  if held.enable then
    if written = held.disabled then (s.setWindow e written).withAnswer .ack else s.withAnswer .berr
  else if written.acceptable then (s.setWindow e written).withAnswer .ack
  else s.withAnswer .berr

/-- A write of a window entry's base word: its upper twenty bits, while the entry is disabled (R100, R106). -/
def State.writeWindowBase (s : State) (e : EntryId) (v : Word) : State :=
  if (s.window e).enable then s.withAnswer .berr
  else (s.setWindow e { s.window e with base := v.extractLsb' 12 20 }).withAnswer .ack

/-- A write of a window entry's remote word: its upper twenty-eight bits, while the entry is disabled (R100, R106). -/
def State.writeWindowRemote (s : State) (e : EntryId) (v : Word) : State :=
  if (s.window e).enable then s.withAnswer .berr
  else (s.setWindow e { s.window e with remote := v.extractLsb' 4 28 }).withAnswer .ack

/-- A write of the discard time: a count of 1 to 255 (R134). -/
def State.writeDiscardTime (s : State) (v : Word) : State :=
  let steps := v.extractLsb' 0 8
  if steps = 0 then s.withAnswer .berr
  else (s.setReads { s.reads with discardSteps := steps }).withAnswer .ack

/-- A write of the class mask (R149). -/
def State.writeClassMask (s : State) (v : Word) : State :=
  (s.setEvents { s.events with mask := v.extractLsb' 0 9 }).withAnswer .ack

/-- A write of the interrupt control: refused for a threshold of 0 or above 64, otherwise taken and the line judged anew
(R154). -/
def State.writeInterruptControl (s : State) (v : Word) : State :=
  let threshold := v.extractLsb' 8 7
  if threshold.toNat = 0 ∨ 64 < threshold.toNat then s.withAnswer .berr
  else (s.setEvents (EventQueue.judged { s.events with
    irqEnable := v.getLsbD 0
    threshold := threshold
    holdoffSteps := v.extractLsb' 16 8 })).withAnswer .ack

/-- A write to a field register of a request slot: taken while the slot is IDLE, refused otherwise (R137). -/
def State.writeRequest (s : State) (n : SlotId) (f : RequestSlot → RequestSlot) : State :=
  if (s.request n).state = .idle then (s.setRequest n (f (s.request n))).withAnswer .ack
  else s.withAnswer .berr

/-- A write of a request slot's control register (R137). -/
def State.writeRequestControl (s : State) (n : SlotId) (v : Word) : State := s.writeRequest n (·.withControl v)

/-- A write of a request slot's remote address (R137). -/
def State.writeRequestRemote (s : State) (n : SlotId) (v : Word) : State :=
  s.writeRequest n (fun q => { q with remote := v })

/-- A write of a word of a request slot's data buffer (R137). -/
def State.writeRequestData (s : State) (n : SlotId) (k : Fin 4) (v : Word) : State :=
  s.writeRequest n (fun q => { q with buffer := writeBufferWord q.buffer k v })

/-! ## Port commands -/

/-- A port with the result of a port command (R87). -/
def Port.withResult (q : Port) (r : CommandResult) : Port := { q with commandResult := r }

/-- A port command leaves its result (R87). -/
def State.portResult (s : State) (p : PortId) (r : CommandResult) : State := s.modPort p (·.withResult r)

/-- A port command that the port's state does not allow (R87). -/
def State.portIgnored (s : State) (p : PortId) : State := s.portResult p .ignored

/-- ENABLE (R67, R88). The one that acts disarms the hunt and begins it anew (R31, R36); one that is IGNORED changes nothing but
the command result, the receiver included (R87, Table 5-2; log entry 18). -/
def State.enablePort (s : State) (p : PortId) : State :=
  if (s.port p).link = .off then
    let s := s.modPort p (fun q => Port.enterProbing { q with nextSeq := 0, receiver := .hunt false } s.now)
    (s.portResult p .done).arbitrate p
  else s.portIgnored p

/-- DISABLE (R31, R94, R95). Of an OFF port it changes nothing but the command result (R94); its hunt is unarmed already. -/
def State.disablePort (s : State) (p : PortId) : State :=
  if (s.port p).link = .off then s.portResult p .done
  else
    let records := (s.port p).allRecords
    ((s.modPort p Port.tornDown).settleAll p .disabled records).offerFlushed p records

/-- RESUME (R89). -/
def State.resumePort (s : State) (p : PortId) : State :=
  if (s.port p).link ≠ .off ∧ (s.port p).queue = .held then
    (s.modPort p (fun q => { q with queue := .run, commandResult := .done })).arbitrate p
  else s.portIgnored p

/-- FLUSH (R90). -/
def State.flushPort (s : State) (p : PortId) : State :=
  if (s.port p).link = .off then s.portIgnored p
  else
    let records := (s.port p).queuedRecords
    let s := s.modPort p (fun q => q.flushLanes.withResult .done)
    (s.settleAll p .flushed records).offerFlushed p records

/-- RESTART (R76, R92). -/
def State.restartPort (s : State) (p : PortId) : State :=
  if (s.port p).link = .lost then
    let s := s.modPort p (fun q => (q.enterProbing s.now).withResult .done)
    s.arbitrate p
  else s.portIgnored p

/-- The attention latch of a port cleared (R79). -/
def Port.clearAttention (q : Port) : Port := { q with station := { q.station with attention := false } }

/-- ACK_ATTENTION (R79, R93). -/
def State.ackAttention (s : State) (p : PortId) : State :=
  if (s.port p).link = .off then s.portIgnored p
  else s.modPort p (fun q => q.clearAttention.withResult .done)

/-- A write to a port's control register: the command its code names, or IGNORED (R87, Table 11-7). -/
def State.portCommand (s : State) (p : PortId) (code : BitVec 4) : State :=
  if code = 1 then s.enablePort p
  else if code = 2 then s.disablePort p
  else if code = 3 then s.resumePort p
  else if code = 4 then s.flushPort p
  else if code = 5 then s.restartPort p
  else if code = 6 then s.ackAttention p
  else s.portIgnored p

/-! ## Slot commands -/

/-- A slot command leaves its result (R138). -/
def State.slotResult (s : State) (n : SlotId) (r : CommandResult) : State :=
  s.setRequest n { s.request n with commandResult := r }

/-- The admission of an explicit request's record (R10, R139): it joins its lane, the slot is SUBMITTED, and a WRITE runs the
invalidation check. -/
def State.admitRequest (s : State) (n : SlotId) : State :=
  let q := s.request n
  let r := requestRecord n q
  let s := s.modPort q.port (·.join r)
  let s := s.setRequest n { q with state := .submitted }
  let s := if q.operation = .write then s.invalidate q.port r else s
  s.arbitrate q.port

/-- SUBMIT (R139). -/
def State.submitRequest (s : State) (n : SlotId) : State :=
  let q := s.request n
  if q.state = .idle then
    let s := s.slotResult n .done
    if q.valid && ((s.port q.port).refusal (.request n)).isNone then s.admitRequest n
    else s.completeRequest n .refused q.buffer
  else s.slotResult n .ignored

/-- A QUEUED record of request slot `n` (R141). -/
def Record.queuedFor (r : Record) (n : SlotId) : Bool := r.source == .request n && r.queued

/-- A port's lanes without the QUEUED record of a request slot (R141). -/
def Port.withdraw (q : Port) (n : SlotId) : Port :=
  { q with
    priority := q.priority.filter (fun r => !r.queuedFor n)
    normal := q.normal.filter (fun r => !r.queuedFor n) }

/-- A port's lanes hold a QUEUED record of a request slot (R141). -/
def Port.holdsQueued (q : Port) (n : SlotId) : Bool :=
  q.priority.any (·.queuedFor n) || q.normal.any (·.queuedFor n)

/-- CANCEL (R141). -/
def State.cancelRequest (s : State) (n : SlotId) : State :=
  let q := s.request n
  if q.state = .submitted ∧ (s.port q.port).holdsQueued n then
    let s := s.slotResult n .done
    let s := s.modPort q.port (·.withdraw n)
    (s.completeRequest n .cancelled q.buffer).arbitrate q.port
  else s.slotResult n .ignored

/-- A request slot is COMPLETE (R145). -/
def RequestState.isComplete : RequestState → Bool
  | .complete _ => true
  | _ => false

/-- RELEASE (R145). -/
def State.releaseRequest (s : State) (n : SlotId) : State :=
  let q := s.request n
  if q.state.isComplete then s.setRequest n { q with state := .idle, commandResult := .done }
  else s.slotResult n .ignored

/-- A write to a slot's command register: the command its code names, or IGNORED (R138, Table 11-7). -/
def State.slotCommand (s : State) (n : SlotId) (code : BitVec 4) : State :=
  if code = 1 then s.submitRequest n
  else if code = 2 then s.cancelRequest n
  else if code = 3 then s.releaseRequest n
  else s.slotResult n .ignored

/-! ## Event and global commands -/

/-- POP (R151). -/
def State.popEvent (s : State) : State := s.setEvents (s.events.pop s.now)

/-- An event control write with another code leaves the POP result IGNORED (R161). -/
def State.popIgnored (s : State) : State := s.setEvents { s.events with popResult := .ignored }

/-- A write to event control (R151, R161). -/
def State.eventCommand (s : State) (code : BitVec 4) : State := if code = 1 then s.popEvent else s.popIgnored

/-- CHIP_RESET: the chip reset is due, and follows as a happening of its own (R158, R160). -/
def State.dueChipReset (s : State) : State := { s with chipResetDue := true }

/-- A write to global control (R158). -/
def State.globalCommand (s : State) (code : BitVec 4) : State := if code = 1 then s.dueChipReset else s

/-! ## Any register -/

/-- A 4-byte write to an assigned register (R112, R156): a setting or a command as its owning rule lays down; the data of a
write to a status register or a counter is ignored. -/
def State.writeReg (s : State) (r : Reg) (v : Word) : State :=
  match r with
  | .globalControl => (s.globalCommand (commandCode v)).withAnswer .ack
  | .eventControl => (s.eventCommand (commandCode v)).withAnswer .ack
  | .classMask => s.writeClassMask v
  | .interruptControl => s.writeInterruptControl v
  | .discardTime => s.writeDiscardTime v
  | .windowControl e => s.writeWindowControl e v
  | .windowBase e => s.writeWindowBase e v
  | .windowRemote e => s.writeWindowRemote e v
  | .requestControl n => s.writeRequestControl n v
  | .requestRemote n => s.writeRequestRemote n v
  | .requestCommand n => (s.slotCommand n (commandCode v)).withAnswer .ack
  | .requestData n k => s.writeRequestData n k v
  | .port p .control => (s.portCommand p (commandCode v)).withAnswer .ack
  | .port p .configA => s.writeConfigA p v
  | .port p .configB => s.writeConfigB p v
  | _ => s.withAnswer .ack

/-- An access at an offset of the register window (Table 7-2). -/
def State.registerAccess (s : State) (offset : BitVec 10) (a : RegAccess) : State :=
  match a with
  | .wrongSize _ _ => s.withAnswer .berr
  | .read4 =>
    match regAt offset with
    | none => s.withAnswer (.ackWord 0)
    | some r => s.readAccess r
  | .write4 v =>
    match regAt offset with
    | none => s.withAnswer .ack
    | some r => s.writeReg r v

end Sys2Proof.Machine
end

