-- ==== Sys2Proof/Machine/HostAccess.lean ====
section
/-! DEFINITION. The host bus target: when an access is decided at all (R109, R159, R160), the decision for a window access
(R111, R114 to R116), the delayed read unit's answer (R125 to R128), and the termination of the access in progress (R109, R118). -/

namespace Sys2Proof.Machine

/-- A host access reaches the HBT and is decided by `decide` (R111). While the reset pin is asserted every access is left to the
default responder (R159). An access that is not aligned, or that comes while another is in progress, is not presented (R109).
While a chip reset is due no access is decided (R160). -/
def State.present (s : State) (isAligned : Bool) (act : State → State) : State :=
  if s.resetAsserted then s.withAnswer .pass
  else if !isAligned then s.withAnswer .notPresented
  else if s.target.access.isSome then s.withAnswer .notPresented
  else if s.chipResetDue then s.withAnswer .undecided
  else act s

/-- A 4-byte register command, terminated ACK whatever its result (R87, R138, R151). -/
def State.presentCommand (s : State) (act : State → State) : State := s.present true (fun s => (act s).withAnswer .ack)

/-- PASS (R109, R110): the HBT gives no termination, and holds the access until the default responder or the bus monitor gives
one. -/
def State.pass (s : State) (a : HeldAccess) : State := (s.setTarget { s.target with access := some a }).withAnswer .pass

/-! ## Writes to OWNED windows -/

/-- A posted write joins the NORMAL lane and is counted in POSTED_IN (R6). -/
def Port.joinPosted (q : Port) (r : Record) : Port := { q.join r with postedIn := q.postedIn + 1 }

/-- The admission of a posted write (R6): the record, the count, the invalidation check, and the arbiter's choice. -/
def State.admitPosted (s : State) (p : PortId) (r : Record) : State :=
  ((s.modPort p (·.joinPosted r)).invalidate p r).arbitrate p

/-- A write that wins an OWNED entry (Table 7-3). -/
def State.ownedWrite (s : State) (h : Hit) (data : WriteData) : State :=
  if !h.writePermitted then s.withAnswer .berr
  else match (s.port h.port).refusal .posted with
    | none => (s.admitPosted h.port (postedRecord h.remote data)).withAnswer .ack
    | some .portState => s.withAnswer .berr
    | some .noRoom => s.withAnswer (if (s.port h.port).flowing then .rty else .berr)

/-! ## Reads from OWNED windows -/

/-- The slot that is not FREE and holds a key, with its number (R125). -/
def State.findKey (s : State) (k : ReadKey) : Option (SlotId × ReadSlot) :=
  fourNumbers.findSome? fun n =>
    match s.readSlot n with
    | some slot => if slot.key = k then some (n, slot) else none
    | none => none

/-- The FREE slot with the lowest number (R127). -/
def State.freeSlot (s : State) : Option SlotId := fourNumbers.find? (fun n => (s.readSlot n).isNone)

/-- The allocation of a slot and the admission of its READ record (R9, R127). -/
def State.allocateRead (s : State) (n : SlotId) (k : ReadKey) (h : Hit) : State :=
  let s := s.setReadSlot n (some ⟨k, h.port, h.remote, .pending⟩)
  (s.modPort h.port (·.join (readRecord n h.remote k.size))).arbitrate h.port

/-- A refusal: RTY without allocation, and the refusal counter rises (R128). -/
def State.refuseRead (s : State) : State :=
  (s.setReads { s.reads with refusals := satSucc16 s.reads.refusals }).withAnswer .rty

/-- A read with no matching slot (Table 8-3, the lines for none). -/
def State.newRead (s : State) (k : ReadKey) (h : Hit) : State :=
  if !(s.port h.port).flowing then s.withAnswer .berr
  else match s.freeSlot with
    | none => s.refuseRead
    | some n =>
      match (s.port h.port).refusal (.read n) with
      | some _ => s.refuseRead
      | none => (s.allocateRead n k h).withAnswer .rty

/-- A matching slot has the translation of the read (R125). -/
def ReadSlot.fullMatch (slot : ReadSlot) (h : Hit) : Bool := slot.port == h.port && slot.remote == h.remote

/-- The DRU's decision for a read it is handed (R125, R126). -/
def State.decideRead (s : State) (k : ReadKey) (h : Hit) : State :=
  match s.findKey k with
  | none => s.newRead k h
  | some (n, slot) =>
    match slot.state with
    | .pending => s.withAnswer .rty
    | .ready data _ =>
      if slot.fullMatch h then (s.setReadSlot n none).withAnswer (.ackData data)
      else (s.setReadSlot n none).newRead k h
    | .failed _ _ =>
      if slot.fullMatch h then (s.setReadSlot n none).withAnswer .berr
      else (s.setReadSlot n none).newRead k h

/-- A read that wins an OWNED entry (R115). -/
def State.ownedRead (s : State) (k : ReadKey) (h : Hit) : State :=
  if !h.readPermitted then s.withAnswer .berr else s.decideRead k h

/-! ## Writes to MIRRORED windows -/

/-- A mirrored write passed without a copy (R119, R120): the mirror-lost counter rises, and MIRROR_LOST is offered when it goes
from 0 to 1. -/
def State.loseMirror (s : State) (p : PortId) : State :=
  let before := (s.port p).mirrorLost
  let s := s.modPort p (fun q => { q with mirrorLost := satSucc16 q.mirrorLost })
  if before = 0 then s.offer ⟨.mirrorLost, p, .none, 0, .none⟩ else s

/-- A mirror reservation (R7, R117): the RESERVED record joins the NORMAL lane of the port, and the HBT sets its mark. -/
def State.reserveMirror (s : State) (m : MirrorTarget) (data : WriteData) : State :=
  (s.modPort m.port (·.join (reservedRecord m.remote data))).setTarget ⟨s.target.access, some m.port, none⟩

/-- A write that wins a MIRRORED entry (Table 7-4). -/
def State.mirroredWrite (s : State) (master : MasterId) (addr : Word) (h : Hit) (data : WriteData) : State :=
  let uncopied : HeldAccess := ⟨master, addr, .write data, none⟩
  if !h.writePermitted then s.pass uncopied
  else match (s.port h.port).refusal .posted with
    | none => (s.reserveMirror ⟨h.port, h.remote⟩ data).pass ⟨master, addr, .write data, some ⟨h.port, h.remote⟩⟩
    | some .portState => (s.loseMirror h.port).pass uncopied
    | some .noRoom =>
      if (s.port h.port).flowing then s.withAnswer .override else (s.loseMirror h.port).pass uncopied

/-! ## The decision of an access -/

/-- A window access: the register window first, then the window table (R111). -/
def State.windowAccess (s : State) (master : MasterId) (addr : Word) (k : AccessKind) : State :=
  if inRegisterWindow s.pins addr then s.registerAccess (addr.setWidth 10) (toRegAccess k)
  else match lookup s.windows addr with
    | none => s.pass ⟨master, addr, k, none⟩
    | some h =>
      match h.mode, k with
      | .owned, .write d => s.ownedWrite h d
      | .owned, .read z => s.ownedRead ⟨master, addr, z⟩ h
      | .mirrored, .write d => s.mirroredWrite master addr h d
      | .mirrored, .read z => s.pass ⟨master, addr, .read z, none⟩

/-- A host access with an address of its own is presented (R109, R111). -/
def State.hostAccess (s : State) (master : MasterId) (addr : Word) (k : AccessKind) : State :=
  s.present (aligned addr.toNat k.size.bytes) (fun s => s.windowAccess master addr k)

/-! ## The termination of the access in progress -/

/-- The RESERVED record takes the captured data and becomes QUEUED in its place (R8). -/
def Record.commit (data : List Byte) (r : Record) : Record := if r.reserved then { r with data := data, reserved := false } else r

/-- The NORMAL lane with its RESERVED record committed, and POSTED_IN one more (R8). -/
def Port.commitReserved (q : Port) (data : List Byte) : Port :=
  { q with normal := q.normal.map (Record.commit data), postedIn := q.postedIn + 1 }

/-- The NORMAL lane without its RESERVED record (R8). -/
def Port.releaseReserved (q : Port) : Port := { q with normal := q.normal.filter Record.queued }

/-- The write data of an access, in ascending address order; a read carries none (R109). -/
def HeldAccess.data (a : HeldAccess) : List Byte :=
  match a.kind with
  | .write d => d.bytes
  | .read _ => []

/-- The HBT captures the write data of the access that holds the reservation (R118). -/
def HostTarget.capture (t : HostTarget) : HostTarget := { t with captured := t.access.map HeldAccess.data }

/-- A commit (R8, R118): the captured data goes into the record, the invalidation check runs against it, the marks are cleared
and the arbiter chooses. -/
def State.commitMirror (s : State) (p : PortId) : State :=
  let s := s.setTarget s.target.capture
  let data := s.target.captured.getD []
  let record := (s.port p).normal.find? Record.reserved
  let s := s.modPort p (·.commitReserved data)
  let s := match record with
    | some r => s.invalidate p r
    | none => s
  (s.setTarget HostTarget.reset).arbitrate p

/-- A release (R8, R118): the record leaves the pool, and the marks are cleared. -/
def State.releaseMirror (s : State) (p : PortId) : State := (s.modPort p Port.releaseReserved).setTarget HostTarget.reset

/-- The termination of the access in progress by the default responder or the bus monitor: Table 7-6 for one that holds a
reservation; one that holds none is no longer in progress, and the HBT takes no other part (R109, R113). -/
def State.terminateAccess (s : State) (t : Termination) : State :=
  match s.target.reservation with
  | none => s.setTarget { s.target with access := none }
  | some p =>
    match t with
    | .ack => s.commitMirror p
    | .berr => s.releaseMirror p
    | .rty => s.releaseMirror p

end Sys2Proof.Machine
end

