-- ==== Sys2Proof/Machine/CounterReads.lean ====
section
/-! DEFINITION. The meanings of the rows that read a clear-on-read counter. -/

namespace Sys2Proof.Machine

/-- CRC_ERROR_COUNTER_READ (R37). -/
def execCrcErrorCounterRead (port : PortId) (s : State) : Host.Outcome State Fault Refusal :=
  .next (s.present true (fun s => s.readAccess (.port port .crcErrors)))

/-- MALFORMED_FRAME_COUNTER_READ (R37). -/
def execMalformedFrameCounterRead (port : PortId) (s : State) : Host.Outcome State Fault Refusal :=
  .next (s.present true (fun s => s.readAccess (.port port .malformedFrames)))

/-- RETRANSMISSION_COUNTER_READ (R63). -/
def execRetransmissionCounterRead (port : PortId) (s : State) : Host.Outcome State Fault Refusal :=
  .next (s.present true (fun s => s.readAccess (.port port .retransmissions)))

/-- STALE_RESPONSE_COUNTER_READ (R63). -/
def execStaleResponseCounterRead (port : PortId) (s : State) : Host.Outcome State Fault Refusal :=
  .next (s.present true (fun s => s.readAccess (.port port .staleResponses)))

/-- PROBE_ATTEMPT_COUNTER_READ (R80). -/
def execProbeAttemptCounterRead (port : PortId) (s : State) : Host.Outcome State Fault Refusal :=
  .next (s.present true (fun s => s.readAccess (.port port .probeAttempts)))

/-- MIRROR_LOST_COUNTER_READ (R119). -/
def execMirrorLostCounterRead (port : PortId) (s : State) : Host.Outcome State Fault Refusal :=
  .next (s.present true (fun s => s.readAccess (.port port .mirrorLost)))

/-- REFUSAL_COUNTER_READ (R128). -/
def execRefusalCounterRead (s : State) : Host.Outcome State Fault Refusal :=
  .next (s.present true (fun s => s.readAccess .refusals))

/-- INVALIDATION_COUNTER_READ (R131). -/
def execInvalidationCounterRead (s : State) : Host.Outcome State Fault Refusal :=
  .next (s.present true (fun s => s.readAccess .invalidations))

end Sys2Proof.Machine
end

