-- ==== Sys2Proof/Machine/EventCommands.lean ====
section
/-! DEFINITION. The meanings of the rows that write event control. -/

namespace Sys2Proof.Machine

/-- POP (R151). -/
def execPop (s : State) : Host.Outcome State Fault Refusal :=
  .next (s.presentCommand (fun s => s.popEvent))

/-- EVENT_COMMAND_UNKNOWN (R161): a code other than POP leaves the POP result IGNORED; code 1 is POP. -/
def execEventCommandUnknown (value : Word) (s : State) : Host.Outcome State Fault Refusal :=
  .next (s.presentCommand (fun s => s.eventCommand (commandCode value)))

end Sys2Proof.Machine
end

