-- ==== Sys2Proof/Machine/LineOps.lean ====
section
/-! DEFINITION. The shared operations of the happenings that come from the lines and from time: carrier, the end of a
transmission, and each timer running out. A happening that the state rules out (a timer that is not running runs out, a free
transmitter ends a frame, an absent carrier is lost) does not take place: the state is unchanged (log entry 6). -/

namespace Sys2Proof.Machine

/-! ## Carrier -/

/-- The receiver at a change of carrier: the status follows the indication, and the hunt starts unarmed (R31, R35). -/
def Port.setCarrier (q : Port) (present : Bool) : Port := { q with carrier := present, receiver := .hunt false }

/-- A partial frame discarded at a loss of carrier is counted as malformed, unless the port is OFF (R35, R36). -/
def Port.dropPartial (q : Port) : Port :=
  if q.link = .off then q else if q.receiver.hunting then q else q.countMalformed

/-- The carrier of a port's line goes absent (R35): the link is lost if it is UP (Table 4-3). -/
def State.loseCarrier (s : State) (p : PortId) : State :=
  let q := s.port p
  if q.carrier then
    let s := s.modPort p (fun q => q.dropPartial.setCarrier false)
    if q.link = .up then s.loseLink p .carrier else s
  else s

/-- The carrier of a port's line returns (R35). -/
def State.regainCarrier (s : State) (p : PortId) : State :=
  if (s.port p).carrier then s else s.modPort p (·.setCarrier true)

/-! ## The transmitter -/

/-- The oldest outstanding record has this sequence. -/
def Port.oldestIs (q : Port) (n : Seq) : Bool :=
  match q.window with
  | w :: _ => w.seq == n
  | [] => false

/-- The end of a frame is reported to the block that waits on it (R27): the response timer restarts for the oldest unless busy
backoff is active (R43), or the response wait of a probe starts (R69). A timer that ran out while a frame of the oldest was on the
line restarts at the end of that frame, as R27 and R43 have it, where R44 would wait for the end of the resend (DESIGN CHOICE, log
entry 19). -/
def Port.reportEnd (q : Port) (f : BridgeFrame) (now : Nat) : Port :=
  if f.isProbe then
    if q.link = .probing ∧ q.phase = .sending then
      { q with phase := .waiting, probeTimer := some (q.config.timeoutEnd now) }
    else q
  else if q.oldestIs f.seq && q.backoff.isNone then { q with responseTimer := some (q.config.timeoutEnd now) }
  else q

/-- The last CRC byte of the frame in transmission has been sent (R27): the transmitter is free, the end is reported, and the
arbiter chooses. -/
def State.endTransmission (s : State) (p : PortId) : State :=
  match (s.port p).transmitter with
  | none => s
  | some t => (s.modPort p (fun q => Port.reportEnd { q with transmitter := none } t.frame s.now)).arbitrate p

/-! ## The sequencer's timers -/

/-- The response timer runs out (R44): it stops, and the oldest is retried. What restarts it is log entry 19. -/
def State.expireResponseTimer (s : State) (p : PortId) : State :=
  match (s.port p).responseTimer with
  | none => s
  | some _ => (s.modPort p (fun q => { q with responseTimer := none })).retryOldest p

/-- The busy backoff's end time is reached (R58): a resend run begins from the oldest. -/
def State.endBackoff (s : State) (p : PortId) : State :=
  match (s.port p).backoff with
  | none => s
  | some _ => (s.modPort p (fun q => Port.beginRun { q with backoff := none })).arbitrate p

/-! ## The probe timer -/

/-- The probe timer is running while the port stands in a link state and probe phase. -/
def Port.probeTimes (q : Port) (link : LinkState) (phase : ProbePhase) : Bool :=
  q.probeTimer.isSome && q.link == link && q.phase == phase

/-- The response wait of a probe runs out (R70): the attempt fails and is counted, and the phase is RESTING. -/
def Port.failProbe (q : Port) (now : Nat) : Port :=
  { q with
    probeAttempts := satSucc16 q.probeAttempts
    phase := .resting
    probeTimer := some (q.config.probeEnd now) }

/-- The probe timer runs out in WAITING (R70). -/
def State.expireResponseWait (s : State) (p : PortId) : State :=
  if (s.port p).probeTimes .probing .waiting then s.modPort p (·.failProbe s.now) else s

/-- The probe timer runs out in RESTING: the next probe falls due (R68, R70). -/
def State.expireProbeInterval (s : State) (p : PortId) : State :=
  if (s.port p).probeTimes .probing .resting then (s.modPort p (·.probeFallsDue s.now)).arbitrate p else s

/-- The re-probe interval runs out while the link is LOST (R76). -/
def State.expireReprobeInterval (s : State) (p : PortId) : State :=
  if (s.port p).probeTimer.isSome && (s.port p).link == .lost then (s.modPort p (·.enterProbing s.now)).arbitrate p else s

/-! ## The shared timers -/

/-- The READ_DISCARDED record of a slot (R132): cause READY, or the fail cause of a FAILED slot. -/
def readDiscarded (n : SlotId) (slot : ReadSlot) (cause : Cause) : Offer :=
  ⟨.readDiscarded, slot.port, cause, slot.key.addr, .readSlot n slot.key.master⟩

/-- The discard timer of a READY or FAILED slot runs out (R132). -/
def State.expireDiscardTimer (s : State) (n : SlotId) : State :=
  match s.readSlot n with
  | none => s
  | some slot =>
    match slot.state with
    | .pending => s
    | .ready _ _ => (s.setReadSlot n none).offer (readDiscarded n slot .ready)
    | .failed c _ => (s.setReadSlot n none).offer (readDiscarded n slot c)

/-- The holdoff timer reaches its end time (R153), and the line is judged anew (R154). -/
def EventQueue.expireHoldoff (e : EventQueue) : EventQueue :=
  match e.holdoff with
  | .running _ => EventQueue.judged { e with holdoff := .runOut }
  | _ => e

/-- A microsecond passes (R152): the timestamp counter rises by one and wraps, but is held at 0 while the reset pin is asserted
(R159). The model's own clock counts on. -/
def State.tick (s : State) : State :=
  { s with
    now := s.now + 1
    events := if s.resetAsserted then s.events else { s.events with timestamp := s.events.timestamp + 1 } }

end Sys2Proof.Machine
end

