-- ==== Sys2Proof/Machine/LineEvents.lean ====
section
/-! DEFINITION. The meanings of the rows for the carrier, the transmitter and the timers. -/

namespace Sys2Proof.Machine

/-- CARRIER_LOST (R35, R75). -/
def execCarrierLost (port : PortId) (s : State) : Host.Outcome State Fault Refusal :=
  .next (s.loseCarrier port)

/-- CARRIER_REGAINED (R35, R75). -/
def execCarrierRegained (port : PortId) (s : State) : Host.Outcome State Fault Refusal :=
  .next (s.regainCarrier port)

/-- TRANSMISSION_END (R27). -/
def execTransmissionEnd (port : PortId) (s : State) : Host.Outcome State Fault Refusal :=
  .next (s.endTransmission port)

/-- RESPONSE_TIMER_EXPIRY (R44). -/
def execResponseTimerExpiry (port : PortId) (s : State) : Host.Outcome State Fault Refusal :=
  .next (s.expireResponseTimer port)

/-- BUSY_BACKOFF_END (R58). -/
def execBusyBackoffEnd (port : PortId) (s : State) : Host.Outcome State Fault Refusal :=
  .next (s.endBackoff port)

/-- PROBE_RESPONSE_WAIT_EXPIRY (R70). -/
def execProbeResponseWaitExpiry (port : PortId) (s : State) : Host.Outcome State Fault Refusal :=
  .next (s.expireResponseWait port)

/-- PROBE_INTERVAL_EXPIRY (R68, R70). -/
def execProbeIntervalExpiry (port : PortId) (s : State) : Host.Outcome State Fault Refusal :=
  .next (s.expireProbeInterval port)

/-- REPROBE_INTERVAL_EXPIRY (R76). -/
def execReprobeIntervalExpiry (port : PortId) (s : State) : Host.Outcome State Fault Refusal :=
  .next (s.expireReprobeInterval port)

/-- DISCARD_TIMER_EXPIRY (R132). -/
def execDiscardTimerExpiry (slot : SlotId) (s : State) : Host.Outcome State Fault Refusal :=
  .next (s.expireDiscardTimer slot)

/-- HOLDOFF_TIMER_EXPIRY (R153). -/
def execHoldoffTimerExpiry (s : State) : Host.Outcome State Fault Refusal :=
  .next (s.setEvents s.events.expireHoldoff)

/-- TIMESTAMP_TICK (R152). -/
def execTimestampTick (s : State) : Host.Outcome State Fault Refusal :=
  .next (s.tick)

end Sys2Proof.Machine
end

