-- ==== Sys2Proof/Machine/LinkFrames.lean ====
section
/-! DEFINITION. The meanings of the rows for frames a station sends, good and bad. -/

namespace Sys2Proof.Machine

/-- ACK_FRAME_RECEIVED (R34, R47, R78). -/
def execAckFrameReceived (port : PortId) (attention : Bool) (seq : Seq) (s : State) : Host.Outcome State Fault Refusal :=
  .next (s.stationFrame port ⟨attention, seq, .ack⟩)

/-- DATA_FRAME_RECEIVED (R34, R47, R78); a length outside 1 to 16 is malformed (R32). -/
def execDataFrameReceived (port : PortId) (attention : Bool) (seq : Seq) (data : List Byte) (s : State) : Host.Outcome State Fault Refusal :=
  .next (s.stationFrame port ⟨attention, seq, .data data⟩)

/-- REJECT_FRAME_RECEIVED (R34, R47, R78). -/
def execRejectFrameReceived (port : PortId) (attention : Bool) (seq : Seq) (cause : RejectCause) (expected : Seq) (s : State) : Host.Outcome State Fault Refusal :=
  .next (s.stationFrame port ⟨attention, seq, .reject cause expected⟩)

/-- IDENT_FRAME_RECEIVED (R71, R72, R78); a window outside 1 to 8 is malformed (R34). -/
def execIdentFrameReceived (port : PortId) (attention : Bool) (seq : Seq) (cls : BitVec 16) (revision : Byte) (window : Byte) (s : State) : Host.Outcome State Fault Refusal :=
  .next (s.stationFrame port ⟨attention, seq, .ident cls revision window⟩)

/-- CRC_ERROR_FRAME (R33): the receiver takes the bytes of the frame one at a time and counts the failed check. -/
def execCrcErrorFrame (port : PortId) (bytes : List Byte) (s : State) : Host.Outcome State Fault Refusal :=
  .next (s.lineBytes port bytes)

/-- MALFORMED_FRAME (R32, R34): the receiver takes the bytes of the frame one at a time and counts the malformed field. -/
def execMalformedFrame (port : PortId) (bytes : List Byte) (s : State) : Host.Outcome State Fault Refusal :=
  .next (s.lineBytes port bytes)

end Sys2Proof.Machine
end

