-- ==== Sys2Proof/Machine/PortCommands.lean ====
section
/-! DEFINITION. The meanings of the rows that write a command to a port control register. -/

namespace Sys2Proof.Machine

/-- ENABLE (R67, R88). -/
def execEnable (port : PortId) (s : State) : Host.Outcome State Fault Refusal :=
  .next (s.presentCommand (fun s => s.enablePort port))

/-- DISABLE (R94, R95). -/
def execDisable (port : PortId) (s : State) : Host.Outcome State Fault Refusal :=
  .next (s.presentCommand (fun s => s.disablePort port))

/-- RESUME (R89). -/
def execResume (port : PortId) (s : State) : Host.Outcome State Fault Refusal :=
  .next (s.presentCommand (fun s => s.resumePort port))

/-- FLUSH (R90). -/
def execFlush (port : PortId) (s : State) : Host.Outcome State Fault Refusal :=
  .next (s.presentCommand (fun s => s.flushPort port))

/-- RESTART (R92). -/
def execRestart (port : PortId) (s : State) : Host.Outcome State Fault Refusal :=
  .next (s.presentCommand (fun s => s.restartPort port))

/-- ACK_ATTENTION (R93). -/
def execAckAttention (port : PortId) (s : State) : Host.Outcome State Fault Refusal :=
  .next (s.presentCommand (fun s => s.ackAttention port))

/-- PORT_COMMAND_UNKNOWN (R87): a code that names no command leaves IGNORED; a code that names one is that command. -/
def execPortCommandUnknown (port : PortId) (value : Word) (s : State) : Host.Outcome State Fault Refusal :=
  .next (s.presentCommand (fun s => s.portCommand port (commandCode value)))

end Sys2Proof.Machine
end

