-- ==== Sys2Proof/Machine/Resets.lean ====
section
/-! DEFINITION. The meanings of the rows that write global control and of the two resets. -/

namespace Sys2Proof.Machine

/-- CHIP_RESET (R158): terminated ACK; the chip reset is then due. -/
def execChipReset (s : State) : Host.Outcome State Fault Refusal :=
  .next (s.presentCommand (fun s => s.dueChipReset))

/-- GLOBAL_COMMAND_UNKNOWN (R158): a code other than CHIP_RESET is terminated ACK and changes nothing. -/
def execGlobalCommandUnknown (value : Word) (s : State) : Host.Outcome State Fault Refusal :=
  .next (s.presentCommand (fun s => s.globalCommand (commandCode value)))

/-- CHIP_RESET_TAKEN (R160): the chip reset that a CHIP_RESET write made due is taken; where none is due, none is taken. -/
def execChipResetTaken (s : State) : Host.Outcome State Fault Refusal :=
  .next (if s.chipResetDue then s.chipReset else s)

/-- HARDWARE_RESET (R159, R122): the reset pin is asserted; an access in progress is abandoned. -/
def execHardwareReset (s : State) : Host.Outcome State Fault Refusal :=
  .next s.hardwareReset

/-- RESET_RELEASE (R156, R159): the configuration pins are sampled and the HBT decides accesses again; a pin that is not
asserted is not released. -/
def execResetRelease (pins : BitVec 4) (s : State) : Host.Outcome State Fault Refusal :=
  .next (if s.resetAsserted then { s with resetAsserted := false, pins := pins } else s)

end Sys2Proof.Machine
end

