-- ==== Sys2Proof/Machine/Settings.lean ====
section
/-! DEFINITION. The meanings of the rows that write a setting register. -/

namespace Sys2Proof.Machine

/-- CONFIGURATION_A_WRITE (R98). -/
def execConfigurationAWrite (port : PortId) (value : Word) (s : State) : Host.Outcome State Fault Refusal :=
  .next (s.present true (fun s => s.writeConfigA port value))

/-- CONFIGURATION_B_WRITE (R98). -/
def execConfigurationBWrite (port : PortId) (value : Word) (s : State) : Host.Outcome State Fault Refusal :=
  .next (s.present true (fun s => s.writeConfigB port value))

/-- WINDOW_CONTROL_WRITE (R105, R106). -/
def execWindowControlWrite (entry : EntryId) (value : Word) (s : State) : Host.Outcome State Fault Refusal :=
  .next (s.present true (fun s => s.writeWindowControl entry value))

/-- WINDOW_BASE_WRITE (R100, R106). -/
def execWindowBaseWrite (entry : EntryId) (value : Word) (s : State) : Host.Outcome State Fault Refusal :=
  .next (s.present true (fun s => s.writeWindowBase entry value))

/-- WINDOW_REMOTE_WRITE (R100, R106). -/
def execWindowRemoteWrite (entry : EntryId) (value : Word) (s : State) : Host.Outcome State Fault Refusal :=
  .next (s.present true (fun s => s.writeWindowRemote entry value))

/-- DISCARD_TIME_WRITE (R134). -/
def execDiscardTimeWrite (value : Word) (s : State) : Host.Outcome State Fault Refusal :=
  .next (s.present true (fun s => s.writeDiscardTime value))

/-- CLASS_MASK_WRITE (R149). -/
def execClassMaskWrite (value : Word) (s : State) : Host.Outcome State Fault Refusal :=
  .next (s.present true (fun s => s.writeClassMask value))

/-- INTERRUPT_CONTROL_WRITE (R154). -/
def execInterruptControlWrite (value : Word) (s : State) : Host.Outcome State Fault Refusal :=
  .next (s.present true (fun s => s.writeInterruptControl value))

/-- REQUEST_CONTROL_WRITE (R137). -/
def execRequestControlWrite (slot : SlotId) (value : Word) (s : State) : Host.Outcome State Fault Refusal :=
  .next (s.present true (fun s => s.writeRequestControl slot value))

/-- REQUEST_REMOTE_ADDRESS_WRITE (R137). -/
def execRequestRemoteAddressWrite (slot : SlotId) (value : Word) (s : State) : Host.Outcome State Fault Refusal :=
  .next (s.present true (fun s => s.writeRequestRemote slot value))

/-- REQUEST_DATA_WRITE (R137). -/
def execRequestDataWrite (slot : SlotId) (index : Fin 4) (value : Word) (s : State) : Host.Outcome State Fault Refusal :=
  .next (s.present true (fun s => s.writeRequestData slot index value))

end Sys2Proof.Machine
end

