-- ==== Sys2Proof/Machine/SlotCommands.lean ====
section
/-! DEFINITION. The meanings of the rows that write a command to a request slot. -/

namespace Sys2Proof.Machine

/-- SUBMIT (R139). -/
def execSubmit (slot : SlotId) (s : State) : Host.Outcome State Fault Refusal :=
  .next (s.presentCommand (fun s => s.submitRequest slot))

/-- CANCEL (R141). -/
def execCancel (slot : SlotId) (s : State) : Host.Outcome State Fault Refusal :=
  .next (s.presentCommand (fun s => s.cancelRequest slot))

/-- RELEASE (R145). -/
def execRelease (slot : SlotId) (s : State) : Host.Outcome State Fault Refusal :=
  .next (s.presentCommand (fun s => s.releaseRequest slot))

/-- SLOT_COMMAND_UNKNOWN (R138): a code that names no command leaves IGNORED; a code that names one is that command. -/
def execSlotCommandUnknown (slot : SlotId) (value : Word) (s : State) : Host.Outcome State Fault Refusal :=
  .next (s.presentCommand (fun s => s.slotCommand slot (commandCode value)))

end Sys2Proof.Machine
end

