-- ==== Sys2Proof/Machine/WindowAccesses.lean ====
section
/-! DEFINITION. The meanings of the rows for host accesses outside the register window, for the termination of the access in
progress, and for a register access with no row of its own. -/

namespace Sys2Proof.Machine

/-- OWNED_WRITE (R109, R111, R114): a host write is presented; where it wins an OWNED entry it is terminated as Table 7-3 gives. -/
def execOwnedWrite (master : MasterId) (addr : Word) (data : WriteData) (s : State) : Host.Outcome State Fault Refusal :=
  .next (s.hostAccess master addr (.write data))

/-- OWNED_READ (R109, R111, R115, R126): a host read is presented; where it wins an OWNED entry the DRU answers it by Table 8-3. -/
def execOwnedRead (master : MasterId) (addr : Word) (size : Size) (s : State) : Host.Outcome State Fault Refusal :=
  .next (s.hostAccess master addr (.read size))

/-- MIRRORED_WRITE (R109, R111, R116): a host write is presented; where it wins a MIRRORED entry it is decided by Table 7-4. -/
def execMirroredWrite (master : MasterId) (addr : Word) (data : WriteData) (s : State) : Host.Outcome State Fault Refusal :=
  .next (s.hostAccess master addr (.write data))

/-- PASSED_ACCESS (R109, R111, R113): an access is presented; where it wins no entry, or reads a MIRRORED one, it is passed. -/
def execPassedAccess (master : MasterId) (addr : Word) (kind : AccessKind) (s : State) : Host.Outcome State Fault Refusal :=
  .next (s.hostAccess master addr kind)

/-- MIRROR_TERMINATION (R109, R118): the access in progress is terminated, with a reservation or without (log entry 10). -/
def execMirrorTermination (termination : Termination) (s : State) : Host.Outcome State Fault Refusal :=
  .next (s.terminateAccess termination)

/-- REGISTER_WRITE (R112): an access at an offset of the register window is terminated as Table 7-2 gives. -/
def execRegisterWrite (offset : BitVec 10) (access : RegAccess) (s : State) : Host.Outcome State Fault Refusal :=
  .next (s.present (aligned offset.toNat access.bytes) (fun s => s.registerAccess offset access))

end Sys2Proof.Machine
end

