-- ==== Sys2Proof/Machine/Dispatch.lean ====
section
/-! DEFINITION. One arm per command, each one direct call of its meaning. -/

namespace Sys2Proof.Machine

def exec (i : Instr) (s : State) : Host.Outcome State Fault Refusal :=
  match i with
  | .ownedWrite master addr data => Sys2Proof.Machine.execOwnedWrite master addr data s
  | .ownedRead master addr size => Sys2Proof.Machine.execOwnedRead master addr size s
  | .mirroredWrite master addr data => Sys2Proof.Machine.execMirroredWrite master addr data s
  | .passedAccess master addr kind => Sys2Proof.Machine.execPassedAccess master addr kind s
  | .mirrorTermination termination => Sys2Proof.Machine.execMirrorTermination termination s
  | .registerWrite offset access => Sys2Proof.Machine.execRegisterWrite offset access s
  | .configurationAWrite port value => Sys2Proof.Machine.execConfigurationAWrite port value s
  | .configurationBWrite port value => Sys2Proof.Machine.execConfigurationBWrite port value s
  | .windowControlWrite entry value => Sys2Proof.Machine.execWindowControlWrite entry value s
  | .windowBaseWrite entry value => Sys2Proof.Machine.execWindowBaseWrite entry value s
  | .windowRemoteWrite entry value => Sys2Proof.Machine.execWindowRemoteWrite entry value s
  | .discardTimeWrite value => Sys2Proof.Machine.execDiscardTimeWrite value s
  | .classMaskWrite value => Sys2Proof.Machine.execClassMaskWrite value s
  | .interruptControlWrite value => Sys2Proof.Machine.execInterruptControlWrite value s
  | .requestControlWrite slot value => Sys2Proof.Machine.execRequestControlWrite slot value s
  | .requestRemoteAddressWrite slot value => Sys2Proof.Machine.execRequestRemoteAddressWrite slot value s
  | .requestDataWrite slot index value => Sys2Proof.Machine.execRequestDataWrite slot index value s
  | .enable port => Sys2Proof.Machine.execEnable port s
  | .disable port => Sys2Proof.Machine.execDisable port s
  | .resume port => Sys2Proof.Machine.execResume port s
  | .flush port => Sys2Proof.Machine.execFlush port s
  | .restart port => Sys2Proof.Machine.execRestart port s
  | .ackAttention port => Sys2Proof.Machine.execAckAttention port s
  | .portCommandUnknown port value => Sys2Proof.Machine.execPortCommandUnknown port value s
  | .submit slot => Sys2Proof.Machine.execSubmit slot s
  | .cancel slot => Sys2Proof.Machine.execCancel slot s
  | .release slot => Sys2Proof.Machine.execRelease slot s
  | .slotCommandUnknown slot value => Sys2Proof.Machine.execSlotCommandUnknown slot value s
  | .pop => Sys2Proof.Machine.execPop s
  | .eventCommandUnknown value => Sys2Proof.Machine.execEventCommandUnknown value s
  | .chipReset => Sys2Proof.Machine.execChipReset s
  | .globalCommandUnknown value => Sys2Proof.Machine.execGlobalCommandUnknown value s
  | .chipResetTaken => Sys2Proof.Machine.execChipResetTaken s
  | .hardwareReset => Sys2Proof.Machine.execHardwareReset s
  | .resetRelease pins => Sys2Proof.Machine.execResetRelease pins s
  | .crcErrorCounterRead port => Sys2Proof.Machine.execCrcErrorCounterRead port s
  | .malformedFrameCounterRead port => Sys2Proof.Machine.execMalformedFrameCounterRead port s
  | .retransmissionCounterRead port => Sys2Proof.Machine.execRetransmissionCounterRead port s
  | .staleResponseCounterRead port => Sys2Proof.Machine.execStaleResponseCounterRead port s
  | .probeAttemptCounterRead port => Sys2Proof.Machine.execProbeAttemptCounterRead port s
  | .mirrorLostCounterRead port => Sys2Proof.Machine.execMirrorLostCounterRead port s
  | .refusalCounterRead => Sys2Proof.Machine.execRefusalCounterRead s
  | .invalidationCounterRead => Sys2Proof.Machine.execInvalidationCounterRead s
  | .ackFrameReceived port attention seq => Sys2Proof.Machine.execAckFrameReceived port attention seq s
  | .dataFrameReceived port attention seq data => Sys2Proof.Machine.execDataFrameReceived port attention seq data s
  | .rejectFrameReceived port attention seq cause expected => Sys2Proof.Machine.execRejectFrameReceived port attention seq cause expected s
  | .identFrameReceived port attention seq cls revision window => Sys2Proof.Machine.execIdentFrameReceived port attention seq cls revision window s
  | .crcErrorFrame port bytes => Sys2Proof.Machine.execCrcErrorFrame port bytes s
  | .malformedFrame port bytes => Sys2Proof.Machine.execMalformedFrame port bytes s
  | .carrierLost port => Sys2Proof.Machine.execCarrierLost port s
  | .carrierRegained port => Sys2Proof.Machine.execCarrierRegained port s
  | .transmissionEnd port => Sys2Proof.Machine.execTransmissionEnd port s
  | .responseTimerExpiry port => Sys2Proof.Machine.execResponseTimerExpiry port s
  | .busyBackoffEnd port => Sys2Proof.Machine.execBusyBackoffEnd port s
  | .probeResponseWaitExpiry port => Sys2Proof.Machine.execProbeResponseWaitExpiry port s
  | .probeIntervalExpiry port => Sys2Proof.Machine.execProbeIntervalExpiry port s
  | .reprobeIntervalExpiry port => Sys2Proof.Machine.execReprobeIntervalExpiry port s
  | .discardTimerExpiry slot => Sys2Proof.Machine.execDiscardTimerExpiry slot s
  | .holdoffTimerExpiry => Sys2Proof.Machine.execHoldoffTimerExpiry s
  | .timestampTick => Sys2Proof.Machine.execTimestampTick s

end Sys2Proof.Machine
end

