-- ==== Sys2Proof/Machine/Step.lean ====
section
/-! DEFINITION. One step of the bridge: the command at the front of the queue is taken and run with the queue's rest. -/

namespace Sys2Proof.Machine

/-- One step. On an empty queue the bridge idles (log entry 7): time passes by TIMESTAMP_TICK alone. -/
def step (s : State) : Host.Outcome State Fault Refusal :=
  match s.pending with
  | [] => .next s
  | c :: rest => exec c { s with pending := rest }

/-- The state with the command that a word spells put at the front of its queue; unchanged, since no word spells one. -/
def State.withFetchWord (s : State) (nbits w : Nat) : State :=
  match decodeTableWord nbits w with
  | some c => { s with pending := c :: s.pending }
  | none => s

end Sys2Proof.Machine
end

