-- ==== Sys2Proof/Safety.lean ====
section
/-! DEFINITION. What the spec calls laws of the HJ634, as predicates of a state, and the condition under which a host access
is decided. `State.Lawful` gathers them: it holds at `State.reset`, and every step keeps it. -/

namespace Sys2Proof.Machine

/-- A host access presented now is decided: the reset pin is released (R159), no access is in progress (R109) and no chip
reset is due (R160). -/
structure State.Ready (s : State) : Prop where
  released : s.resetAsserted = false
  busFree : s.target.access = none
  noResetDue : s.chipResetDue = false

/-! ## One port -/

/-- Every field of a port's configuration is in the range of Table 5-4. -/
structure PortConfig.InRange (c : PortConfig) : Prop where
  windowLimit : 1 ≤ c.windowLimit.toNat ∧ c.windowLimit.toNat ≤ 8
  busyLimit : c.busyLimit ≠ 0
  probeInterval : c.probeInterval ≠ 0
  timeout : c.timeoutSteps ≠ 0
  backoff : c.backoffSteps ≠ 0

/-- The records of a port's pool: outstanding, then PRIORITY, then NORMAL (R3). -/
def Port.pool (q : Port) : List Record := q.window.map Sent.record ++ q.priority ++ q.normal

/-- The sequences that a send window of `k` records carries below the next sequence number `next`, oldest first (R40). -/
def consecutiveBelow (next : Seq) (k : Nat) : List Seq := (List.range k).map (fun i => next - BitVec.ofNat 4 (k - i))

/-- The laws of one port's queue and sequencer. -/
structure Port.QueueSound (q : Port) : Prop where
  /-- R3: at most sixteen records. -/
  pool : q.poolCount ≤ 16
  /-- R1, R14: a record stands in the lane its field names. -/
  priorityLane : ∀ r ∈ q.priority, r.lane = .priority ∧ r.reserved = false
  normalLane : ∀ r ∈ q.normal, r.lane = .normal
  /-- R12: a RESERVED record is never issued. -/
  issued : ∀ w ∈ q.window, w.record.reserved = false
  /-- R40: consecutive sequences, ending just below the next sequence number. -/
  sequences : q.window.map Sent.seq = consecutiveBelow q.nextSeq q.window.length
  /-- R41, R42: never more than the effective window, which is at most 8. -/
  windowBound : q.window.length ≤ q.effectiveWindow.toNat ∧ q.effectiveWindow.toNat ≤ 8
  /-- R56: counts within their limits, and 0 in every record but the oldest. -/
  counts : ∀ w ∈ q.window, w.retry ≤ q.config.retryLimit.toNat ∧ w.busy ≤ q.config.busyLimit.toNat
  younger : ∀ w ∈ q.window.tail, w.retry = 0 ∧ w.busy = 0
  /-- R46: the resend run holds outstanding records only. -/
  run : ∀ n ∈ q.resendRun, n ∈ q.window.map Sent.seq
  /-- R54, R58: a backoff stands for an outstanding record, with no run and the response timer stopped. -/
  backoff : q.backoff.isSome → q.window ≠ [] ∧ q.resendRun = [] ∧ q.responseTimer = none
  /-- R43: the response timer runs for an outstanding record. -/
  timer : q.responseTimer.isSome → q.window ≠ []

/-- The laws of one port's link. -/
structure Port.LinkSound (q : Port) : Prop where
  /-- R97, R98: the configuration stays in range. -/
  config : q.config.InRange
  /-- Table 3-1, R59: outside UP nothing is outstanding. -/
  quiet : q.link ≠ .up → q.window = [] ∧ q.resendRun = [] ∧ q.backoff = none ∧ q.responseTimer = none
  /-- R72: while UP the station record is valid and sets the effective window. -/
  identified : q.link = .up → q.station.valid = true ∧ q.effectiveWindow = q.config.effective q.station.advertised
  /-- Table 4-2: the probe phase is none outside PROBING and another phase inside it. -/
  phase : q.link = .probing ↔ q.phase ≠ .none
  /-- Table 4-2, R74: the probe timer runs in WAITING, in RESTING, and in LOST with auto re-probe on. -/
  probeTimer : q.probeTimer.isSome ↔
    (q.phase = .waiting ∨ q.phase = .resting ∨ (q.link = .lost ∧ q.config.autoReprobe = true))
  /-- R83, R95, Table 4-2: an OFF port is RUN and empty. -/
  off : q.link = .off → q.priority = [] ∧ q.normal = [] ∧ q.queue = .run ∧ q.transmitter = none ∧
    q.station = Station.reset ∧ q.effectiveWindow = 0 ∧ q.lossCause = .none ∧ q.probeSeq = none ∧ q.receiver = .hunt false

/-! ## The event queue and the window table -/

/-- The laws of the event queue (R150, R153, R154). -/
structure EventQueue.Sound (e : EventQueue) : Prop where
  bound : e.records.length ≤ 64
  holdoff : e.holdoff = .stopped ↔ e.records = []
  line : e.line = e.lineCondition
  threshold : 1 ≤ e.threshold.toNat ∧ e.threshold.toNat ≤ 64

/-- A size code is 0 to 16, and an enabled entry's base is a multiple of its size (R105). -/
structure WindowEntry.Sound (w : WindowEntry) : Prop where
  sizeCode : w.sizeCode.toNat ≤ 16
  aligned : w.enable = true → w.baseAligned = true

/-! ## Records and the blocks that wait for them -/

/-- The RESERVED record that port `p`'s NORMAL lane holds for the access in progress (R8). -/
def HostTarget.reservedFor (t : HostTarget) (p : PortId) : List Record :=
  match t.access with
  | some ⟨_, _, .write d, some m⟩ => if m.port = p then [reservedRecord m.remote d] else []
  | _ => []

/-- The reservation law (R8): the one RESERVED record is that of the access in progress, last in its port's NORMAL lane; the
mark names its port, and no captured data outlasts a happening. -/
structure State.ReservationLaw (s : State) : Prop where
  reserved : ∀ p, (s.port p).normal.filter Record.reserved = s.target.reservedFor p
  last : ∀ p, ∀ r ∈ (s.port p).normal.dropLast, r.reserved = false
  mark : s.target.reservation = s.target.access.bind (fun a => a.mirror.map MirrorTarget.port)
  captured : s.target.captured = none
  /-- R116: only a write is mirrored. -/
  write : ∀ a, s.target.access = some a → a.mirror.isSome → ∃ d, a.kind = .write d
  /-- R122, R159, R160: no access is in progress under the reset pin, and a chip reset does not fall within one. -/
  outside : s.resetAsserted = true ∨ s.chipResetDue = true → s.target.access = none

/-- The READ record that port `p`'s pool holds for delayed-read slot `n` (R124). -/
def State.readRecordFor (s : State) (n : SlotId) (p : PortId) : List Record :=
  match s.readSlot n with
  | some slot => if slot.state = .pending ∧ slot.port = p then [readRecord n slot.remote slot.key.size] else []
  | none => []

/-- The laws of the delayed-read slots (R124, R125, R129): a slot is PENDING exactly when one READ record of its port names it,
keys are distinct, and a READY slot holds as many bytes as its size. -/
structure State.ReadLaw (s : State) : Prop where
  records : ∀ n p, (s.port p).pool.filter (fun r => r.source == .read n) = s.readRecordFor n p
  keys : ∀ n m a b, s.readSlot n = some a → s.readSlot m = some b → a.key = b.key → n = m
  ready : ∀ n slot data deadline, s.readSlot n = some slot → slot.state = .ready data deadline →
    data.length = slot.key.size.bytes

/-- The request record that port `p`'s pool holds for request slot `n` (R136). -/
def State.requestRecordFor (s : State) (n : SlotId) (p : PortId) : List Record :=
  if (s.request n).state = .submitted ∧ (s.request n).port = p then [requestRecord n (s.request n)] else []

/-- A request slot is SUBMITTED exactly when one record of its port names it (R136). -/
def State.RequestLaw (s : State) : Prop :=
  ∀ n p, (s.port p).pool.filter (fun r => r.source == .request n) = s.requestRecordFor n p

/-- The POSTED records of a port that are QUEUED or OUTSTANDING (R16). -/
def Port.postedHeld (q : Port) : Nat := (q.pool.filter (fun r => r.source == .posted && r.queued)).length

/-- POSTED_IN minus POSTED_DONE minus POSTED_DROP is the number of POSTED records QUEUED or OUTSTANDING, modulo 2^32 (R16). -/
def State.PostedLaw (s : State) : Prop :=
  ∀ p, (s.port p).postedIn - (s.port p).postedDone - (s.port p).postedDrop = BitVec.ofNat 32 (s.port p).postedHeld

/-- Every law of the HJ634 that a state can show. -/
structure State.Lawful (s : State) : Prop where
  queues : ∀ p, (s.port p).QueueSound
  links : ∀ p, (s.port p).LinkSound
  events : s.events.Sound
  windows : ∀ e, (s.window e).Sound
  reservation : s.ReservationLaw
  reads : s.ReadLaw
  requests : s.RequestLaw
  posted : s.PostedLaw

/-! ## What a removal of records leaves (R15) -/

/-- A READ record: one whose source is READ (R1). -/
def Record.isRead (r : Record) : Bool :=
  match r.source with
  | .read _ => true
  | _ => false

/-- A REQUEST record: one whose source is REQUEST (R1). -/
def Record.isRequest (r : Record) : Bool :=
  match r.source with
  | .request _ => true
  | _ => false

/-- Delayed-read slot `n` once the records `rs` have been removed with `cause`: FAILED if it was PENDING for one of them. -/
def State.slotAfterRemoval (s : State) (cause : Cause) (rs : List Record) (n : SlotId) : Option ReadSlot :=
  match s.readSlot n with
  | some slot =>
    if slot.state = .pending ∧ rs.any (fun r => r.source == .read n) then
      some { slot with state := .failed cause (s.reads.deadline s.now) }
    else some slot
  | none => none

/-- Request slot `n` once the records `rs` have been removed with `cause`: COMPLETE if it was SUBMITTED for one of them. -/
def State.requestAfterRemoval (s : State) (cause : Cause) (rs : List Record) (n : SlotId) : RequestSlot :=
  if (s.request n).state = .submitted ∧ rs.any (fun r => r.source == .request n) then
    { s.request n with state := .complete cause }
  else s.request n

/-- The REQUEST_DONE records that the removal of the records `rs` offers, in their order (R143). -/
def State.doneOffers (s : State) (cause : Cause) (rs : List Record) : List Offer :=
  rs.filterMap fun r =>
    match r.source with
    | .request n => if (s.request n).notify then some ⟨.requestDone, (s.request n).port, cause, 0, .requestSlot n⟩ else none
    | _ => none

/-- The event queue after several offers of one happening, in their order (R149). -/
def EventQueue.offerAll (e : EventQueue) (now : Nat) (os : List Offer) : EventQueue := os.foldl (fun e o => e.offer now o) e

/-! ## Host accesses, kinds of register, and the port a command names -/

/-- The address, as far as its alignment goes, and the number of bytes of the host access that a command presents (R109); none
for a command that presents none. A register's own row is a 4-byte single at a multiple of 4 (R157). -/
def accessPresented : Instr → Option (Nat × Nat)
  | .ownedWrite _ addr data | .mirroredWrite _ addr data => some (addr.toNat, data.size.bytes)
  | .ownedRead _ addr size => some (addr.toNat, size.bytes)
  | .passedAccess _ addr kind => some (addr.toNat, kind.size.bytes)
  | .registerWrite offset access => some (offset.toNat, access.bytes)
  | .configurationAWrite _ _ | .configurationBWrite _ _ | .windowControlWrite _ _ | .windowBaseWrite _ _
  | .windowRemoteWrite _ _ | .discardTimeWrite _ | .classMaskWrite _ | .interruptControlWrite _ | .requestControlWrite _ _
  | .requestRemoteAddressWrite _ _ | .requestDataWrite _ _ _ | .enable _ | .disable _ | .resume _ | .flush _ | .restart _
  | .ackAttention _ | .portCommandUnknown _ _ | .submit _ | .cancel _ | .release _ | .slotCommandUnknown _ _ | .pop
  | .eventCommandUnknown _ | .chipReset | .globalCommandUnknown _ | .crcErrorCounterRead _ | .malformedFrameCounterRead _
  | .retransmissionCounterRead _ | .staleResponseCounterRead _ | .probeAttemptCounterRead _ | .mirrorLostCounterRead _
  | .refusalCounterRead | .invalidationCounterRead => some (0, 4)
  | .mirrorTermination _ | .chipResetTaken | .hardwareReset | .resetRelease _ | .ackFrameReceived _ _ _
  | .dataFrameReceived _ _ _ _ | .rejectFrameReceived _ _ _ _ _ | .identFrameReceived _ _ _ _ _ _ | .crcErrorFrame _ _
  | .malformedFrame _ _ | .carrierLost _ | .carrierRegained _ | .transmissionEnd _ | .responseTimerExpiry _ | .busyBackoffEnd _
  | .probeResponseWaitExpiry _ | .probeIntervalExpiry _ | .reprobeIntervalExpiry _ | .discardTimerExpiry _
  | .holdoffTimerExpiry | .timestampTick => none

/-- The kinds of register (R156). -/
inductive RegKind where
  | setting
  | status
  | counter
  | command
deriving DecidableEq, Repr

/-- The kind of a port register (Table 11-2). -/
def PortReg.kind : PortReg → RegKind
  | .control => .command
  | .status | .linkStatus | .identity | .queueStatus | .postedIn | .postedDone | .postedDrop => .status
  | .configA | .configB => .setting
  | .mirrorLost | .crcErrors | .malformedFrames | .retransmissions | .staleResponses | .probeAttempts => .counter

/-- The kind of a register (Table 11-1). -/
def Reg.kind : Reg → RegKind
  | .identity | .timestamp | .eventStatus | .eventHead _ | .slotStatus _ _ | .requestStatus _ => .status
  | .globalControl | .eventControl | .requestCommand _ => .command
  | .classMask | .interruptControl | .discardTime | .windowControl _ | .windowBase _ | .windowRemote _ => .setting
  | .requestControl _ | .requestRemote _ | .requestData _ _ => .setting
  | .refusals | .invalidations => .counter
  | .port _ r => r.kind

/-- The one port a command concerns, where its row names one. -/
def portNamed : Instr → Option PortId
  | .configurationAWrite p _ | .configurationBWrite p _ | .enable p | .disable p | .resume p | .flush p | .restart p
  | .ackAttention p | .portCommandUnknown p _ | .crcErrorCounterRead p | .malformedFrameCounterRead p
  | .retransmissionCounterRead p | .staleResponseCounterRead p | .probeAttemptCounterRead p | .mirrorLostCounterRead p
  | .ackFrameReceived p _ _ | .dataFrameReceived p _ _ _ | .rejectFrameReceived p _ _ _ _ | .identFrameReceived p _ _ _ _ _
  | .crcErrorFrame p _ | .malformedFrame p _ | .carrierLost p | .carrierRegained p | .transmissionEnd p
  | .responseTimerExpiry p | .busyBackoffEnd p | .probeResponseWaitExpiry p | .probeIntervalExpiry p
  | .reprobeIntervalExpiry p => some p
  | _ => none

end Sys2Proof.Machine
end

