-- ==== Sys2Proof/Certificates/Slice0/Obligations.lean ====
section
/-! DEFINITION. The statements for the provers. Each says what a numbered rule of spec/ says, over the model's own State. A
statement of a command's effect has an equation `exec … = .next …` as its conclusion and writes the whole next state, so that
whatever it does not name is unchanged. -/

open Sys2Proof Sys2Proof.Machine

/-! ## The step -/

/-- The command at the front of the queue is run with the queue's rest (the model's queue, log entry 8). -/
def Obligations.StepRunsTheFrontCommand : Prop :=
  ∀ (c : Instr) (rest : List Instr) (s : State),
    step { s with pending := c :: rest } = exec c { s with pending := rest }

/-- Every command completes in every state, and none touches the queue of waiting commands (log entries 6 and 8). -/
def Obligations.EveryCommandCompletes : Prop :=
  ∀ (c : Instr) (s : State), ∃ t, exec c s = .next t ∧ t.pending = s.pending

/-! ## Laws of the whole machine -/

/-- The four queues share nothing: a command that names a port changes no other port, and no window entry. -/
def Obligations.OtherPortsUntouched : Prop :=
  ∀ (c : Instr) (s t : State) (p : PortId), portNamed c = some p → exec c s = .next t →
    (∀ r, r ≠ p → t.port r = s.port r) ∧ t.windows = s.windows

/-- While a port is not OFF its configuration stands (R98), and while a window entry is enabled its fields stand, but for the
enable, which a disabling write or a chip reset clears (R106, R108). Only the hardware reset does otherwise. -/
def Obligations.LockedSettingsStand : Prop :=
  ∀ (c : Instr) (s t : State), c ≠ .hardwareReset → exec c s = .next t →
    (∀ p, (s.port p).link ≠ .off → (t.port p).config = (s.port p).config) ∧
    (∀ e, (s.window e).enable = true → t.window e = s.window e ∨ t.window e = { s.window e with enable := false })

/-- A queue that is HELD before and after a step has taken no NORMAL record into its send window (R12). -/
def Obligations.HeldQueueIssuesNoNormalRecord : Prop :=
  ∀ (s t : State) (p : PortId), s.Lawful → step s = .next t → (s.port p).queue = .held → (t.port p).queue = .held →
    ∀ w ∈ (t.port p).window, w.record.lane = .normal → ∃ v ∈ (s.port p).window, v.record = w.record ∧ v.seq = w.seq

/-- The laws hold at reset. -/
def Obligations.ResetIsLawful : Prop := State.reset.Lawful

/-- The laws of every port's queue and sequencer are kept by every step (R3, R40, R41, R42, R56). -/
def Obligations.QueueLawsKept : Prop :=
  ∀ (s t : State), s.Lawful → step s = .next t → ∀ p, (t.port p).QueueSound

/-- The laws of every port's link are kept by every step (R72, R83, R95, R97, R59). -/
def Obligations.LinkLawsKept : Prop :=
  ∀ (s t : State), s.Lawful → step s = .next t → ∀ p, (t.port p).LinkSound

/-- The event queue stays within sixty-four records, its holdoff timer is stopped exactly while it is empty, and the interrupt
line follows its condition (R150, R153, R154); a window entry's size code and alignment stay legal (R105). -/
def Obligations.EventAndWindowLawsKept : Prop :=
  ∀ (s t : State), step s = .next t →
    (s.events.Sound → t.events.Sound) ∧ ((∀ e, (s.window e).Sound) → ∀ e, (t.window e).Sound)

/-- At most one RESERVED record stands, last in its NORMAL lane, for a write that is the access in progress (R8); no access is in
progress under the reset pin or while a chip reset is due (R122, R160). -/
def Obligations.ReservationLawKept : Prop :=
  ∀ (s t : State), s.Lawful → step s = .next t → t.ReservationLaw

/-- A delayed-read slot is PENDING exactly when one READ record of its port names it, and keys are distinct (R124, R125). -/
def Obligations.ReadLawKept : Prop :=
  ∀ (s t : State), s.Lawful → step s = .next t → t.ReadLaw

/-- A request slot is SUBMITTED exactly when one record of its port names it (R136). -/
def Obligations.RequestLawKept : Prop :=
  ∀ (s t : State), s.Lawful → step s = .next t → t.RequestLaw

/-- The posted-write counters account for every POSTED record the bridge holds (R16). -/
def Obligations.PostedLawKept : Prop :=
  ∀ (s t : State), s.Lawful → step s = .next t → t.PostedLaw

/-! ## Host accesses outside the register window -/

/-- The lookup reports the enabled entry of lowest index whose window holds the address, with the remote address translated
modulo 2^32, and reports no match when there is none (R101, R102, R103). -/
def Obligations.LookupTakesTheLowestMatch : Prop :=
  ∀ (windows : Vector WindowEntry 12) (addr : Word),
    let inside := fun (e : EntryId) => windows[e].enable = true ∧ windows[e].baseWord.toNat ≤ addr.toNat ∧
      addr.toNat < windows[e].baseWord.toNat + 4096 * 2 ^ windows[e].sizeCode.toNat
    ((∀ e, ¬ inside e) → lookup windows addr = none) ∧
    ∀ e, inside e → (∀ f, f < e → ¬ inside f) →
      lookup windows addr = some ⟨e, windows[e].mode, windows[e].port,
        BitVec.ofNat 32 (windows[e].remoteWord.toNat + (addr.toNat - windows[e].baseWord.toNat)),
        windows[e].readPermitted, windows[e].writePermitted⟩

/-- A write that wins an OWNED entry is terminated, and admitted or not, as Table 7-3 gives (R114, R6). -/
def Obligations.OwnedWriteFollowsItsTable : Prop :=
  ∀ (s : State) (m : MasterId) (addr : Word) (d : WriteData) (h : Hit),
    s.Ready → addr.toNat % d.size.bytes = 0 → inRegisterWindow s.pins addr = false → lookup s.windows addr = some h →
    h.mode = .owned →
    let q := s.port h.port
    let r : Record := ⟨.normal, .posted, .write, h.remote, d.size.bytes, d.bytes, false⟩
    (h.writePermitted = false ∨ q.link = .off ∨ (16 ≤ q.poolCount ∧ ¬ (q.link = .up ∧ q.queue = .run)) →
      exec (.ownedWrite m addr d) s = .next (s.withAnswer .berr)) ∧
    (h.writePermitted = true → 16 ≤ q.poolCount → q.link = .up → q.queue = .run →
      exec (.ownedWrite m addr d) s = .next (s.withAnswer .rty)) ∧
    (h.writePermitted = true → q.link ≠ .off → q.poolCount < 16 →
      exec (.ownedWrite m addr d) s = .next ((((s.setPort h.port
        { q with normal := q.normal ++ [r], postedIn := q.postedIn + 1 }).invalidate h.port r).arbitrate h.port).withAnswer .ack))

/-- Whenever a WRITE record joins a lane of port `p`, each READY slot of `p` that shares a byte with it becomes FREE, every other
slot stands, and the invalidation counter rises by one for each, saturating (R11). -/
def Obligations.InvalidationFreesOverlappedSlots : Prop :=
  ∀ (s : State) (p : PortId) (r : Record), 1 ≤ r.length →
    let struck := fun (n : SlotId) => ∃ slot data deadline, s.readSlot n = some slot ∧ slot.state = .ready data deadline ∧
      slot.port = p ∧ ∃ b, slot.remote.toNat ≤ b ∧ b < slot.remote.toNat + slot.key.size.bytes ∧
        r.remote.toNat ≤ b ∧ b < r.remote.toNat + r.length
    ∃ d, s.invalidate p r = s.setReads d ∧ d.refusals = s.reads.refusals ∧ d.discardSteps = s.reads.discardSteps ∧
      (∀ n, struck n → d.slots[n] = none) ∧ (∀ n, ¬ struck n → d.slots[n] = s.readSlot n) ∧
      ∀ freed : List SlotId, freed.Nodup → (∀ n, n ∈ freed ↔ struck n) →
        d.invalidations.toNat = min 65535 (s.reads.invalidations.toNat + freed.length)

/-- A read that wins an OWNED entry and whose key a slot holds is answered from the slot (R125, R126, R130). -/
def Obligations.OwnedReadAnsweredFromItsSlot : Prop :=
  ∀ (s : State) (m : MasterId) (addr : Word) (z : Size) (h : Hit) (n : SlotId) (slot : ReadSlot),
    s.Ready → addr.toNat % z.bytes = 0 → inRegisterWindow s.pins addr = false → lookup s.windows addr = some h →
    h.mode = .owned → h.readPermitted = true → s.ReadLaw → s.readSlot n = some slot → slot.key = ⟨m, addr, z⟩ →
    (slot.state = .pending → exec (.ownedRead m addr z) s = .next (s.withAnswer .rty)) ∧
    (∀ data deadline, slot.state = .ready data deadline → slot.port = h.port → slot.remote = h.remote →
      exec (.ownedRead m addr z) s = .next ((s.setReadSlot n none).withAnswer (.ackData data))) ∧
    (∀ cause deadline, slot.state = .failed cause deadline → slot.port = h.port → slot.remote = h.remote →
      exec (.ownedRead m addr z) s = .next ((s.setReadSlot n none).withAnswer .berr)) ∧
    (slot.state ≠ .pending → (slot.port ≠ h.port ∨ slot.remote ≠ h.remote) →
      exec (.ownedRead m addr z) s = exec (.ownedRead m addr z) (s.setReadSlot n none))

/-- A read that wins an OWNED entry and whose key no slot holds is refused, turned back, or given the lowest FREE slot and a
READ record (R115, R126, R127, R128, R9). -/
def Obligations.OwnedReadWithoutASlot : Prop :=
  ∀ (s : State) (m : MasterId) (addr : Word) (z : Size) (h : Hit),
    s.Ready → addr.toNat % z.bytes = 0 → inRegisterWindow s.pins addr = false → lookup s.windows addr = some h →
    h.mode = .owned →
    let q := s.port h.port
    let run := q.link = .up ∧ q.queue = .run
    let refused := (s.setReads { s.reads with
      refusals := if s.reads.refusals = 65535#16 then 65535#16 else s.reads.refusals + 1 }).withAnswer .rty
    (h.readPermitted = false → exec (.ownedRead m addr z) s = .next (s.withAnswer .berr)) ∧
    (h.readPermitted = true → (∀ n slot, s.readSlot n = some slot → slot.key ≠ ⟨m, addr, z⟩) →
      (¬ run → exec (.ownedRead m addr z) s = .next (s.withAnswer .berr)) ∧
      (run → (∀ n, s.readSlot n ≠ none) → exec (.ownedRead m addr z) s = .next refused) ∧
      (run → 16 ≤ q.poolCount → exec (.ownedRead m addr z) s = .next refused) ∧
      (∀ n, run → q.poolCount < 16 → s.readSlot n = none → (∀ k, k < n → s.readSlot k ≠ none) →
        exec (.ownedRead m addr z) s = .next ((((s.setReadSlot n (some ⟨⟨m, addr, z⟩, h.port, h.remote, .pending⟩)).setPort
          h.port { q with normal := q.normal ++ [⟨.normal, .read n, .read, h.remote, z.bytes, [], false⟩] }).arbitrate
          h.port).withAnswer .rty)))

/-- A write that wins a MIRRORED entry is passed with a reservation, passed without a copy, or overridden, as Table 7-4 gives; a
write that is passed is held as the access in progress (R116, R7, R109, R119, R120). -/
def Obligations.MirroredWriteFollowsItsTable : Prop :=
  ∀ (s : State) (m : MasterId) (addr : Word) (d : WriteData) (h : Hit),
    s.Ready → addr.toNat % d.size.bytes = 0 → inRegisterWindow s.pins addr = false → lookup s.windows addr = some h →
    h.mode = .mirrored →
    let q := s.port h.port
    let counted := s.setPort h.port
      { q with mirrorLost := if q.mirrorLost = 65535#16 then 65535#16 else q.mirrorLost + 1 }
    let lost := if q.mirrorLost = 0 then counted.offer ⟨.mirrorLost, h.port, .none, 0, .none⟩ else counted
    let passed := fun (t : State) =>
      (t.setTarget { s.target with access := some ⟨m, addr, .write d, none⟩ }).withAnswer .pass
    (h.writePermitted = false → exec (.mirroredWrite m addr d) s = .next (passed s)) ∧
    (h.writePermitted = true →
      (q.link = .off ∨ (16 ≤ q.poolCount ∧ ¬ (q.link = .up ∧ q.queue = .run)) →
        exec (.mirroredWrite m addr d) s = .next (passed lost)) ∧
      (16 ≤ q.poolCount → q.link = .up → q.queue = .run →
        exec (.mirroredWrite m addr d) s = .next (s.withAnswer .override)) ∧
      (q.link ≠ .off → q.poolCount < 16 → exec (.mirroredWrite m addr d) s = .next (((s.setPort h.port
        { q with normal := q.normal ++ [⟨.normal, .posted, .write, h.remote, d.size.bytes, [], true⟩] }).setTarget
        ⟨some ⟨m, addr, .write d, some ⟨h.port, h.remote⟩⟩, some h.port, none⟩).withAnswer .pass)))

/-- The termination of the access that holds the reservation commits it or releases it (R118, R8). -/
def Obligations.MirrorTerminationCommitsOrReleases : Prop :=
  ∀ (s : State) (p : PortId) (a : HeldAccess) (d : WriteData) (front : List Record) (r : Record),
    s.target.access = some a → a.kind = .write d → s.target.reservation = some p → (s.port p).normal = front ++ [r] →
    r.reserved = true → (∀ x ∈ front, x.reserved = false) →
    let q := s.port p
    exec (.mirrorTermination .ack) s = .next ((((s.setPort p { q with
      normal := front ++ [{ r with data := d.bytes, reserved := false }], postedIn := q.postedIn + 1 }).invalidate p
      r).setTarget ⟨none, none, none⟩).arbitrate p) ∧
    ∀ refused, refused = .berr ∨ refused = .rty →
      exec (.mirrorTermination refused) s = .next ((s.setPort p { q with normal := front }).setTarget ⟨none, none, none⟩)

/-- An access that wins no entry, and a read that wins a MIRRORED one, is passed: it is held until its termination, which has no
other effect, and then nothing but the recorded answer tells of it (R109, R113; that the one termination row also stands for
such an access is log entry 10). No host access, whatever row presents it, is decided while the reset pin is asserted (R159),
while it is misaligned or another is in progress (R109), or while a chip reset is due (R160): the answer that the model then
records is its own (log entry 14). -/
def Obligations.PassedAccessLeavesNoTrace : Prop :=
  (∀ (s : State) (m : MasterId) (addr : Word) (k : AccessKind), addr.toNat % k.size.bytes = 0 → s.Ready →
    inRegisterWindow s.pins addr = false →
    (lookup s.windows addr = none ∨ ∃ h z, lookup s.windows addr = some h ∧ h.mode = .mirrored ∧ k = .read z) →
    let held := (s.setTarget { s.target with access := some ⟨m, addr, k, none⟩ }).withAnswer .pass
    exec (.passedAccess m addr k) s = .next held ∧
    (s.target.reservation = none → ∀ x, exec (.mirrorTermination x) held = .next (s.withAnswer .pass))) ∧
  (∀ (s : State) (x : Termination), s.target.reservation = none →
    exec (.mirrorTermination x) s = .next (s.setTarget { s.target with access := none })) ∧
  ∀ (s : State) (c : Instr) (addr bytes : Nat), accessPresented c = some (addr, bytes) →
    (s.resetAsserted = true → exec c s = .next (s.withAnswer .pass)) ∧
    (s.resetAsserted = false → (addr % bytes ≠ 0 ∨ s.target.access ≠ none) → exec c s = .next (s.withAnswer .notPresented)) ∧
    (s.resetAsserted = false → addr % bytes = 0 → s.target.access = none → s.chipResetDue = true →
      exec c s = .next (s.withAnswer .undecided))

/-! ## The register window -/

/-- The register map places every register at an offset of its own, and every other offset is unassigned (R157). -/
def Obligations.RegisterMapIsOneToOne : Prop :=
  (∀ r : Reg, r.offset < 1024 ∧ r.offset % 4 = 0 ∧ regAt (BitVec.ofNat 10 r.offset) = some r) ∧
  ∀ (o : BitVec 10) (r : Reg), regAt o = some r → r.offset = o.toNat

/-- An access in the register window is terminated as Table 7-2 gives: a wrong size is refused, an unassigned offset reads 0 and
ignores writes, an assigned one reads its value, and a status register or a counter ignores writes (R112, R156). -/
def Obligations.RegisterAccessFollowsItsTable : Prop :=
  ∀ (s : State) (off : BitVec 10), s.Ready →
    (∀ dir z, off.toNat % z.bytes = 0 → exec (.registerWrite off (.wrongSize dir z)) s = .next (s.withAnswer .berr)) ∧
    (off.toNat % 4 = 0 → (∀ r : Reg, r.offset ≠ off.toNat) →
      exec (.registerWrite off .read4) s = .next (s.withAnswer (.ackWord 0)) ∧
      ∀ v, exec (.registerWrite off (.write4 v)) s = .next (s.withAnswer .ack)) ∧
    ∀ r : Reg, r.offset = off.toNat →
      (r.kind = .setting ∨ r.kind = .status →
        exec (.registerWrite off .read4) s = .next (s.withAnswer (.ackWord (s.readReg r)))) ∧
      (r.kind = .command → exec (.registerWrite off .read4) s = .next (s.withAnswer (.ackWord 0))) ∧
      (r.kind = .status ∨ r.kind = .counter → ∀ v, exec (.registerWrite off (.write4 v)) s = .next (s.withAnswer .ack))

/-- An access that falls in the register window is the access at its offset, and a register with rows of its own does what
those rows do, whichever way its offset is reached (R111, R112, R156; log entry 9). -/
def Obligations.RegisterAccessAgreesWithItsRows : Prop :=
  ∀ (s : State) (p : PortId) (n : SlotId) (e : EntryId) (i : Fin 4) (v : Word),
    let write := fun (r : Reg) => exec (.registerWrite (BitVec.ofNat 10 r.offset) (.write4 v)) s
    let read := fun (r : Reg) => exec (.registerWrite (BitVec.ofNat 10 r.offset) .read4) s
    let code := v.toNat % 16
    (∀ m addr k, inRegisterWindow s.pins addr = true →
      exec (.passedAccess m addr k) s = exec (.registerWrite (addr.extractLsb' 0 10) (toRegAccess k)) s) ∧
    (write (.port p .configA) = exec (.configurationAWrite p v) s ∧
      write (.port p .configB) = exec (.configurationBWrite p v) s ∧
      write (.windowControl e) = exec (.windowControlWrite e v) s ∧ write (.windowBase e) = exec (.windowBaseWrite e v) s ∧
      write (.windowRemote e) = exec (.windowRemoteWrite e v) s ∧ write .discardTime = exec (.discardTimeWrite v) s ∧
      write .classMask = exec (.classMaskWrite v) s ∧ write .interruptControl = exec (.interruptControlWrite v) s ∧
      write (.requestControl n) = exec (.requestControlWrite n v) s ∧
      write (.requestRemote n) = exec (.requestRemoteAddressWrite n v) s ∧
      write (.requestData n i) = exec (.requestDataWrite n i v) s) ∧
    (write (.port p .control) = exec (match code with
        | 1 => .enable p | 2 => .disable p | 3 => .resume p | 4 => .flush p | 5 => .restart p | 6 => .ackAttention p
        | _ => .portCommandUnknown p v) s ∧
      write (.requestCommand n) = exec (match code with
        | 1 => .submit n | 2 => .cancel n | 3 => .release n | _ => .slotCommandUnknown n v) s ∧
      write .eventControl = exec (if code = 1 then .pop else .eventCommandUnknown v) s ∧
      write .globalControl = exec (if code = 1 then .chipReset else .globalCommandUnknown v) s) ∧
    read (.port p .crcErrors) = exec (.crcErrorCounterRead p) s ∧
    read (.port p .malformedFrames) = exec (.malformedFrameCounterRead p) s ∧
    read (.port p .retransmissions) = exec (.retransmissionCounterRead p) s ∧
    read (.port p .staleResponses) = exec (.staleResponseCounterRead p) s ∧
    read (.port p .probeAttempts) = exec (.probeAttemptCounterRead p) s ∧
    read (.port p .mirrorLost) = exec (.mirrorLostCounterRead p) s ∧
    read .refusals = exec .refusalCounterRead s ∧ read .invalidations = exec .invalidationCounterRead s

/-- The status registers carry the state in the fields of Tables 11-3 to 11-6 and 11-8, with 0 in the bits no field occupies, and
the event head words and the words of a FREE delayed-read slot read 0 (R17, R82, R135, R146, R151, R156, R158, R161, R162). The
codes are those of Table 11-7. -/
def Obligations.StatusWordsShowTheState : Prop :=
  (∀ (s : State) (p : PortId), (s.port p).QueueSound →
    let q := s.port p
    (let w := s.readReg (.port p .queueStatus)
     (w.extractLsb' 0 5).toNat = (q.priority.filter (fun r => !r.reserved)).length ∧
     (w.extractLsb' 8 5).toNat = (q.normal.filter (fun r => !r.reserved)).length ∧
     (w.extractLsb' 16 5).toNat = q.window.length ∧ (w.extractLsb' 24 5).toNat = q.poolCount ∧ w &&& 0x1F1F1F1F#32 = w) ∧
    (let w := s.readReg (.port p .linkStatus)
     w.extractLsb' 0 2 = q.link.code ∧ w.extractLsb' 4 3 = q.phase.code ∧ w.extractLsb' 8 4 = q.lossCause.code ∧
     w.getLsbD 12 = q.carrier ∧ w.getLsbD 13 = q.station.valid ∧ w.getLsbD 14 = q.station.attention ∧
     w.extractLsb' 16 4 = q.effectiveWindow ∧ w.extractLsb' 20 4 = q.station.advertised ∧ w &&& 0x00FF7F73#32 = w) ∧
    (let w := s.readReg (.port p .identity)
     w.extractLsb' 0 16 = q.station.cls ∧ w.extractLsb' 16 8 = q.station.revision ∧ w &&& 0x00FFFFFF#32 = w) ∧
    (let w := s.readReg (.port p .status)
     w.extractLsb' 0 1 = q.queue.code ∧ w.extractLsb' 8 2 = q.commandResult.code ∧ w &&& 0x00000301#32 = w) ∧
    s.readReg (.port p .postedIn) = q.postedIn ∧ s.readReg (.port p .postedDone) = q.postedDone ∧
    s.readReg (.port p .postedDrop) = q.postedDrop) ∧
  (∀ s : State, s.events.Sound →
    let e := s.events
    (let w := s.readReg .eventStatus
     (w.extractLsb' 0 7).toNat = e.records.length ∧ w.extractLsb' 8 8 = e.lost ∧ w.getLsbD 16 = (e.holdoff == .runOut) ∧
     w.getLsbD 17 = e.line ∧ w.extractLsb' 24 2 = e.popResult.code ∧ w &&& 0x0303FF7F#32 = w) ∧
    s.readReg .timestamp = e.timestamp ∧ (e.records = [] → ∀ k, s.readReg (.eventHead k) = 0) ∧
    ∀ r rest, e.records = r :: rest →
      (let w := s.readReg (.eventHead 0)
       (w.extractLsb' 0 4).toNat = r.offer.kind.code ∧ (w.extractLsb' 4 2).toNat = r.offer.port.val ∧
       w.extractLsb' 8 4 = r.offer.cause.code ∧ w.extractLsb' 16 8 = r.lostBefore ∧ w &&& 0x00FF0F3F#32 = w) ∧
      s.readReg (.eventHead 1) = r.timestamp ∧ s.readReg (.eventHead 2) = r.offer.address ∧
      (s.readReg (.eventHead 3)).toNat = match r.offer.detail with
        | .none => 0
        | .sequence q => q.toNat
        | .identity cls rev => cls.toNat + 65536 * rev.toNat
        | .cls cls => cls.toNat
        | .returned n => n % 16
        | .readSlot n m => n.val + 16 * m.val
        | .requestSlot n => n.val
        | .counts posted reads requests => posted % 32 + 256 * (reads % 32) + 65536 * (requests % 32)) ∧
  (∀ (s : State) (n : SlotId),
    (s.readSlot n = none → ∀ k, s.readReg (.slotStatus n k) = 0) ∧
    (∀ x, s.readSlot n = some x →
      (let w := s.readReg (.slotStatus n 0)
       w.extractLsb' 0 2 = (match x.state with | .pending => 1#2 | .ready _ _ => 2#2 | .failed _ _ => 3#2) ∧
       (w.extractLsb' 4 2).toNat = x.key.master.val ∧
       w.extractLsb' 8 2 = (match x.key.size with | .one => 0#2 | .two => 1#2 | .four => 2#2 | .sixteen => 3#2) ∧
       (w.extractLsb' 12 2).toNat = x.port.val ∧
       w.extractLsb' 16 4 = (match x.state with | .failed c _ => c.code | _ => 0#4) ∧ w &&& 0x000F3333#32 = w) ∧
      s.readReg (.slotStatus n 1) = x.key.addr ∧ s.readReg (.slotStatus n 2) = x.remote) ∧
    (let w := s.readReg (.requestStatus n)
     let x := s.request n
     w.extractLsb' 0 2 = (match x.state with | .idle => 0#2 | .submitted => 1#2 | .complete _ => 2#2) ∧
     w.extractLsb' 8 4 = (match x.state with | .complete c => c.code | _ => 0#4) ∧
     w.extractLsb' 16 2 = x.commandResult.code ∧ w &&& 0x00030F03#32 = w) ∧
    (s.readReg .identity).toNat = 0x06340100 + 16 * s.pins.toNat) ∧
  [Cause.none, .address, .denied, .timeout, .busy, .carrier, .protocol, .held, .flushed, .disabled, .ok, .refused, .cancelled,
    .ready].map Cause.code = [0, 1, 2, 3, 4, 5, 6, 7, 8, 9, 10, 11, 12, 13] ∧
  [EventKind.writeFault, .linkUp, .linkLost, .stationChanged, .attention, .readDiscarded, .mirrorLost, .requestDone,
    .flushed].map EventKind.code = [1, 2, 3, 4, 5, 6, 7, 8, 9] ∧
  [LinkState.off, .probing, .up, .lost].map LinkState.code = [0, 1, 2, 3] ∧
  [ProbePhase.none, .due, .sending, .waiting, .resting].map ProbePhase.code = [0, 1, 2, 3, 4] ∧
  [CommandResult.none, .done, .ignored].map CommandResult.code = [0, 1, 2] ∧
  [QueueState.run, .held].map QueueState.code = [0, 1]

/-- A setting register reads back what was written to it, with 0 in the bits no field occupies, wherever the write is taken; and a
configuration in range is taken again as it reads (R156, R161, Tables 11-3 to 11-6). -/
def Obligations.SettingRegistersRoundTrip : Prop :=
  (∀ c : PortConfig, c.InRange → c.withA c.wordA = some c ∧ c.withB c.wordB = some c) ∧
  (∀ (c d : PortConfig) (v : Word), c.withA v = some d → d.wordA = v &&& 0xFF01F7F7#32) ∧
  (∀ (c d : PortConfig) (v : Word), c.withB v = some d → d.wordB = v &&& 0x00FF00FF#32) ∧
  (∀ (w : WindowEntry) (v : Word), (w.withControl v).controlWord = v &&& 0x00031F33#32) ∧
  (∀ (q : RequestSlot) (v : Word), (q.withControl v).controlWord = v &&& 0x00031F13#32) ∧
  (∀ (b : Vector Byte 16) (k j : Fin 4) (v : Word),
    bufferWord (writeBufferWord b k v) j = if j = k then v else bufferWord b j) ∧
  ∀ (s : State) (p : PortId) (e : EntryId) (n : SlotId) (k : Fin 4) (v : Word), s.Ready →
    let readsBack := fun (c : Instr) (r : Reg) (mask : Word) => ∃ t, exec c s = .next t ∧ t.readReg r = v &&& mask
    let threshold := (v.extractLsb' 8 7).toNat
    ((s.port p).link = .off →
      ((s.port p).config.withA v ≠ none → readsBack (.configurationAWrite p v) (.port p .configA) 0xFF01F7F7) ∧
      ((s.port p).config.withB v ≠ none → readsBack (.configurationBWrite p v) (.port p .configB) 0x00FF00FF)) ∧
    (let w := s.window e
     let written := w.withControl v
     (w.enable = false ∧ written.sizeCode.toNat ≤ 16 ∧ (written.enable = true → written.baseAligned = true) ∨
        w.enable = true ∧ written = { w with enable := false } →
      readsBack (.windowControlWrite e v) (.windowControl e) 0x00031F33) ∧
     (w.enable = false →
      readsBack (.windowBaseWrite e v) (.windowBase e) 0xFFFFF000 ∧
      readsBack (.windowRemoteWrite e v) (.windowRemote e) 0xFFFFFFF0)) ∧
    (v.extractLsb' 0 8 ≠ 0 → readsBack (.discardTimeWrite v) .discardTime 0x000000FF) ∧
    readsBack (.classMaskWrite v) .classMask 0x000001FF ∧
    (1 ≤ threshold → threshold ≤ 64 → readsBack (.interruptControlWrite v) .interruptControl 0x00FF7F01) ∧
    ((s.request n).state = .idle →
      readsBack (.requestControlWrite n v) (.requestControl n) 0x00031F13 ∧
      readsBack (.requestRemoteAddressWrite n v) (.requestRemote n) 0xFFFFFFFF ∧
      readsBack (.requestDataWrite n k v) (.requestData n k) 0xFFFFFFFF)

/-- A configuration write is taken only while the port is OFF and every field is in range (R98). -/
def Obligations.ConfigurationWritesNeedAnOffPort : Prop :=
  ∀ (s : State) (p : PortId) (v : Word), s.Ready →
    let q := s.port p
    (∀ rate, LinkRate.ofCode (v.extractLsb' 0 3) = some rate → 1 ≤ (v.extractLsb' 4 4).toNat → (v.extractLsb' 4 4).toNat ≤ 8 →
      v.extractLsb' 12 4 ≠ 0 → v.extractLsb' 24 8 ≠ 0 → q.link = .off →
      exec (.configurationAWrite p v) s = .next ((s.setPort p { q with config := { q.config with
        rate := rate, windowLimit := v.extractLsb' 4 4, retryLimit := v.extractLsb' 8 3, busyLimit := v.extractLsb' 12 4,
        autoReprobe := v.getLsbD 16, probeInterval := v.extractLsb' 24 8 } }).withAnswer .ack)) ∧
    ((4 ≤ (v.extractLsb' 0 3).toNat ∨ (v.extractLsb' 4 4).toNat = 0 ∨ 8 < (v.extractLsb' 4 4).toNat ∨
        v.extractLsb' 12 4 = 0 ∨ v.extractLsb' 24 8 = 0 ∨ q.link ≠ .off) →
      exec (.configurationAWrite p v) s = .next (s.withAnswer .berr)) ∧
    (v.extractLsb' 0 8 ≠ 0 → v.extractLsb' 16 8 ≠ 0 → q.link = .off →
      exec (.configurationBWrite p v) s = .next ((s.setPort p { q with config := { q.config with
        timeoutSteps := v.extractLsb' 0 8, backoffSteps := v.extractLsb' 16 8 } }).withAnswer .ack)) ∧
    ((v.extractLsb' 0 8 = 0 ∨ v.extractLsb' 16 8 = 0 ∨ q.link ≠ .off) →
      exec (.configurationBWrite p v) s = .next (s.withAnswer .berr))

/-- A window entry's words are written while it is disabled; an enable is judged for size code and alignment; an enabled entry
takes only the write that disables it (R100, R105, R106). -/
def Obligations.WindowWritesPrepareEnableAndLock : Prop :=
  ∀ (s : State) (e : EntryId) (v : Word), s.Ready →
    let w := s.window e
    let size := (v.extractLsb' 8 5).toNat
    let written : WindowEntry := { w with
      enable := v.getLsbD 0, mode := if v.getLsbD 1 then .mirrored else .owned, port := ofTwo (v.extractLsb' 4 2),
      sizeCode := v.extractLsb' 8 5, readPermitted := v.getLsbD 16, writePermitted := v.getLsbD 17 }
    (w.enable = false → size ≤ 16 → (v.getLsbD 0 = true → w.baseWord.toNat % (4096 * 2 ^ size) = 0) →
      exec (.windowControlWrite e v) s = .next ((s.setWindow e written).withAnswer .ack)) ∧
    (w.enable = false → (16 < size ∨ (v.getLsbD 0 = true ∧ w.baseWord.toNat % (4096 * 2 ^ size) ≠ 0)) →
      exec (.windowControlWrite e v) s = .next (s.withAnswer .berr)) ∧
    (w.enable = true → written = { w with enable := false } →
      exec (.windowControlWrite e v) s = .next ((s.setWindow e { w with enable := false }).withAnswer .ack)) ∧
    (w.enable = true → written ≠ { w with enable := false } →
      exec (.windowControlWrite e v) s = .next (s.withAnswer .berr)) ∧
    (w.enable = false →
      exec (.windowBaseWrite e v) s = .next ((s.setWindow e { w with base := v.extractLsb' 12 20 }).withAnswer .ack) ∧
      exec (.windowRemoteWrite e v) s = .next ((s.setWindow e { w with remote := v.extractLsb' 4 28 }).withAnswer .ack)) ∧
    (w.enable = true →
      exec (.windowBaseWrite e v) s = .next (s.withAnswer .berr) ∧
      exec (.windowRemoteWrite e v) s = .next (s.withAnswer .berr))

/-- The discard time, the class mask and the interrupt control are written whole or refused, and the interrupt line is judged
anew (R134, R149, R154). -/
def Obligations.SharedSettingWrites : Prop :=
  ∀ (s : State) (v : Word), s.Ready →
    (v.extractLsb' 0 8 ≠ 0 → exec (.discardTimeWrite v) s =
      .next ((s.setReads { s.reads with discardSteps := v.extractLsb' 0 8 }).withAnswer .ack)) ∧
    (v.extractLsb' 0 8 = 0 → exec (.discardTimeWrite v) s = .next (s.withAnswer .berr)) ∧
    exec (.classMaskWrite v) s = .next ((s.setEvents { s.events with mask := v.extractLsb' 0 9 }).withAnswer .ack) ∧
    (let n := (v.extractLsb' 8 7).toNat
     let count := s.events.records.length
     (1 ≤ n → n ≤ 64 → exec (.interruptControlWrite v) s = .next ((s.setEvents { s.events with
        irqEnable := v.getLsbD 0, threshold := v.extractLsb' 8 7, holdoffSteps := v.extractLsb' 16 8,
        line := decide (v.getLsbD 0 = true ∧ (n ≤ count ∨ (1 ≤ count ∧ s.events.holdoff = .runOut))) }).withAnswer .ack)) ∧
     (n = 0 ∨ 64 < n → exec (.interruptControlWrite v) s = .next (s.withAnswer .berr)))

/-- A request slot's field registers are written while the slot is IDLE and refused otherwise (R137). -/
def Obligations.RequestFieldWritesNeedAnIdleSlot : Prop :=
  ∀ (s : State) (n : SlotId) (k : Fin 4) (v : Word), s.Ready →
    let q := s.request n
    (q.state = .idle →
      exec (.requestControlWrite n v) s = .next ((s.setRequest n { q with
        port := ofTwo (v.extractLsb' 0 2), operation := if v.getLsbD 4 then .read else .write, length := v.extractLsb' 8 5,
        priorityOption := v.getLsbD 16, notify := v.getLsbD 17 }).withAnswer .ack) ∧
      exec (.requestRemoteAddressWrite n v) s = .next ((s.setRequest n { q with remote := v }).withAnswer .ack) ∧
      ∃ b, exec (.requestDataWrite n k v) s = .next ((s.setRequest n { q with buffer := b }).withAnswer .ack) ∧
        ∀ j : Fin 16, b[j] = if j.val / 4 = k.val then v.extractLsb' (24 - 8 * (j.val % 4)) 8 else q.buffer[j]) ∧
    (q.state ≠ .idle →
      exec (.requestControlWrite n v) s = .next (s.withAnswer .berr) ∧
      exec (.requestRemoteAddressWrite n v) s = .next (s.withAnswer .berr) ∧
      exec (.requestDataWrite n k v) s = .next (s.withAnswer .berr))

/-- A read of a clear-on-read counter returns its value and makes it 0, and changes nothing else (R37, R63, R80, R119, R128,
R131). -/
def Obligations.CounterReadsClear : Prop :=
  ∀ (s : State) (p : PortId), s.Ready →
    let q := s.port p
    let d := s.reads
    let word := fun (c : Counter) => Answer.ackWord (c.setWidth 32)
    exec (.crcErrorCounterRead p) s = .next ((s.setPort p { q with crcErrors := 0 }).withAnswer (word q.crcErrors)) ∧
    exec (.malformedFrameCounterRead p) s =
      .next ((s.setPort p { q with malformedFrames := 0 }).withAnswer (word q.malformedFrames)) ∧
    exec (.retransmissionCounterRead p) s =
      .next ((s.setPort p { q with retransmissions := 0 }).withAnswer (word q.retransmissions)) ∧
    exec (.staleResponseCounterRead p) s =
      .next ((s.setPort p { q with staleResponses := 0 }).withAnswer (word q.staleResponses)) ∧
    exec (.probeAttemptCounterRead p) s =
      .next ((s.setPort p { q with probeAttempts := 0 }).withAnswer (word q.probeAttempts)) ∧
    exec (.mirrorLostCounterRead p) s = .next ((s.setPort p { q with mirrorLost := 0 }).withAnswer (word q.mirrorLost)) ∧
    exec .refusalCounterRead s = .next ((s.setReads { d with refusals := 0 }).withAnswer (word d.refusals)) ∧
    exec .invalidationCounterRead s = .next ((s.setReads { d with invalidations := 0 }).withAnswer (word d.invalidations))

/-! ## Port commands -/

/-- ENABLE makes an OFF port PROBING with a probe due, sent at once where the line is free and has carrier (R67, R68, R88). -/
def Obligations.EnableStartsProbing : Prop :=
  ∀ (s : State) (p : PortId), s.Ready → (s.port p).link = .off →
    let q := s.port p
    let base : Port := { q with
      link := .probing, nextSeq := 0, probeSeq := none, probeTimer := none, receiver := .hunt false, commandResult := .done }
    (q.carrier = true → q.transmitter = none → exec (.enable p) s = .next ((s.setPort p { base with
      phase := .sending, probeSeq := some 0, transmitter := some ⟨.probe 0, false⟩ }).withAnswer .ack)) ∧
    (q.carrier = false → exec (.enable p) s = .next ((s.setPort p { base with
      phase := .resting, probeTimer := some (s.now + 1000 * q.config.probeInterval.toNat) }).withAnswer .ack))

/-- RESUME makes a HELD queue RUN, and the arbiter chooses; of a RUN queue it leaves IGNORED (R89). ACK_ATTENTION clears the
attention latch unless the link is OFF, where it leaves IGNORED (R93). -/
def Obligations.ResumeAndAckAttentionAct : Prop :=
  ∀ (s : State) (p : PortId), s.Ready →
    let q := s.port p
    let ignored := (s.setPort p { q with commandResult := .ignored }).withAnswer .ack
    (q.link ≠ .off → q.queue = .held → exec (.resume p) s =
      .next (((s.setPort p { q with queue := .run, commandResult := .done }).arbitrate p).withAnswer .ack)) ∧
    (q.queue = .run → exec (.resume p) s = .next ignored) ∧
    (q.link ≠ .off → exec (.ackAttention p) s = .next ((s.setPort p { q with
      station := { q.station with attention := false }, commandResult := .done }).withAnswer .ack)) ∧
    (q.link = .off → exec (.ackAttention p) s = .next ignored)

/-- FLUSH removes every QUEUED record of both lanes and gives each producer its outcome; the window, the link and the queue
state stand (R90, R15, R143). -/
def Obligations.FlushRemovesQueuedRecords : Prop :=
  ∀ (s : State) (p : PortId), s.Ready → s.Lawful → (s.port p).link ≠ .off →
    let q := s.port p
    let gone := q.priority ++ q.normal
    let posted := (gone.filter (fun r => r.source == .posted)).length
    let reads := (gone.filter Record.isRead).length
    let requests := (gone.filter Record.isRequest).length
    let flushed : List Offer := if gone = [] then [] else [⟨.flushed, p, .none, 0, .counts posted reads requests⟩]
    ∃ t, exec (.flush p) s = .next t ∧ t.answer = .ack ∧
      t.port p = { q with
        priority := [], normal := [], postedDrop := q.postedDrop + BitVec.ofNat 32 posted, commandResult := .done } ∧
      (∀ r, r ≠ p → t.port r = s.port r) ∧ (∀ n, t.readSlot n = s.slotAfterRemoval .flushed gone n) ∧
      (∀ n, t.request n = s.requestAfterRemoval .flushed gone n) ∧
      t.events = s.events.offerAll s.now (s.doneOffers .flushed gone ++ flushed) ∧ t.windows = s.windows ∧
      t.target = s.target ∧ t.reads.refusals = s.reads.refusals ∧ t.reads.invalidations = s.reads.invalidations

/-- DISABLE tears a port down to OFF in one happening: every record is removed, oldest first and then lane by lane, every
producer is given its outcome, and the counters and the configuration stand (R94, R95, R29, R60, R77). -/
def Obligations.DisableTearsThePortDown : Prop :=
  ∀ (s : State) (p : PortId), s.Ready → s.Lawful → (s.port p).link ≠ .off →
    let q := s.port p
    let gone := q.window.map Sent.record ++ q.priority ++ q.normal
    let posted := (gone.filter (fun r => r.source == .posted)).length
    let reads := (gone.filter Record.isRead).length
    let requests := (gone.filter Record.isRequest).length
    let flushed : List Offer := if gone = [] then [] else [⟨.flushed, p, .none, 0, .counts posted reads requests⟩]
    ∃ t, exec (.disable p) s = .next t ∧ t.answer = .ack ∧
      t.port p = { q with
        priority := [], normal := [], window := [], nextSeq := 0, resendRun := [], backoff := none, responseTimer := none,
        transmitter := none, receiver := .hunt false, link := .off, phase := .none, probeSeq := none, probeTimer := none,
        lossCause := .none, station := ⟨false, 0, 0, 0, false⟩, effectiveWindow := 0, queue := .run, commandResult := .done,
        postedDrop := q.postedDrop + BitVec.ofNat 32 posted } ∧
      (∀ r, r ≠ p → t.port r = s.port r) ∧ (∀ n, t.readSlot n = s.slotAfterRemoval .disabled gone n) ∧
      (∀ n, t.request n = s.requestAfterRemoval .disabled gone n) ∧
      t.events = s.events.offerAll s.now (s.doneOffers .disabled gone ++ flushed) ∧ t.windows = s.windows ∧
      t.target = s.target ∧ t.reads.refusals = s.reads.refusals ∧ t.reads.invalidations = s.reads.invalidations

/-- A port command that the port's state does not allow, and a code that names no command, leave IGNORED and change nothing
else; DISABLE of an OFF port leaves DONE (R87, R94, Table 5-2). That an ENABLE that is IGNORED leaves an armed hunt armed, R31 being
read of the ENABLE that acts, is log entry 18. -/
def Obligations.PortCommandsIgnored : Prop :=
  ∀ (s : State) (p : PortId) (v : Word), s.Ready →
    let q := s.port p
    let ignored := (s.setPort p { q with commandResult := .ignored }).withAnswer .ack
    (q.link ≠ .off → exec (.enable p) s = .next ignored) ∧
    (q.link = .off → exec (.disable p) s = .next ((s.setPort p { q with commandResult := .done }).withAnswer .ack)) ∧
    (q.link = .off ∨ q.queue = .run → exec (.resume p) s = .next ignored) ∧
    (q.link = .off → exec (.flush p) s = .next ignored) ∧
    (q.link ≠ .lost → exec (.restart p) s = .next ignored) ∧
    (q.link = .off → exec (.ackAttention p) s = .next ignored) ∧
    ((v.toNat % 16 = 0 ∨ 6 < v.toNat % 16) → exec (.portCommandUnknown p v) s = .next ignored)

/-! ## Request slots -/

/-- SUBMIT of an IDLE slot admits the request's record to its lane, or completes the slot with REFUSED (R10, R139, R143). -/
def Obligations.SubmitAdmitsOrRefuses : Prop :=
  ∀ (s : State) (n : SlotId), s.Ready → (s.request n).state = .idle →
    let x := s.request n
    let q := s.port x.port
    let sound := 1 ≤ x.length.toNat ∧ x.length.toNat ≤ 16 ∧ x.remote.toNat + x.length.toNat ≤ 2 ^ 32
    let r : Record := ⟨if x.priorityOption then .priority else .normal, .request n, x.operation, x.remote, x.length.toNat,
      if x.operation = .write then x.buffer.toList.take x.length.toNat else [], false⟩
    let joined := (s.setPort x.port (if x.priorityOption then { q with priority := q.priority ++ [r] }
      else { q with normal := q.normal ++ [r] })).setRequest n { x with state := .submitted, commandResult := .done }
    let refused := s.setRequest n { x with state := .complete .refused, commandResult := .done }
    (sound → q.link ≠ .off → q.poolCount < 16 → exec (.submit n) s = .next (((if x.operation = .write
      then joined.invalidate x.port r else joined).arbitrate x.port).withAnswer .ack)) ∧
    (¬ (sound ∧ q.link ≠ .off ∧ q.poolCount < 16) → exec (.submit n) s = .next ((if x.notify
      then refused.offer ⟨.requestDone, x.port, .refused, 0, .requestSlot n⟩ else refused).withAnswer .ack))

/-- CANCEL removes the QUEUED record of a SUBMITTED slot from its lane and completes the slot with CANCELLED (R141, R143);
RELEASE makes a COMPLETE slot IDLE and keeps its fields (R145). -/
def Obligations.CancelAndReleaseAct : Prop :=
  ∀ (s : State) (n : SlotId), s.Ready →
    let x := s.request n
    let q := s.port x.port
    let others := fun (lane : List Record) => lane.filter (fun r => !(r.source == .request n && !r.reserved))
    let cancelled := (s.setPort x.port { q with priority := others q.priority, normal := others q.normal }).setRequest n
      { x with state := .complete .cancelled, commandResult := .done }
    (x.state = .submitted → (∃ r ∈ q.priority ++ q.normal, r.source = .request n ∧ r.reserved = false) →
      exec (.cancel n) s = .next (((if x.notify then cancelled.offer ⟨.requestDone, x.port, .cancelled, 0, .requestSlot n⟩
        else cancelled).arbitrate x.port).withAnswer .ack)) ∧
    (∀ c, x.state = .complete c → exec (.release n) s =
      .next ((s.setRequest n { x with state := .idle, commandResult := .done }).withAnswer .ack))

/-- A slot command that the slot's state does not allow, and a code that names no command, leave IGNORED and change nothing
else (R138, Table 9-3). -/
def Obligations.SlotCommandsIgnored : Prop :=
  ∀ (s : State) (n : SlotId) (v : Word), s.Ready →
    let x := s.request n
    let q := s.port x.port
    let ignored := (s.setRequest n { x with commandResult := .ignored }).withAnswer .ack
    (x.state ≠ .idle → exec (.submit n) s = .next ignored) ∧
    (x.state ≠ .submitted ∨ (∀ r ∈ q.priority ++ q.normal, ¬ (r.source = .request n ∧ r.reserved = false)) →
      exec (.cancel n) s = .next ignored) ∧
    ((∀ c, x.state ≠ .complete c) → exec (.release n) s = .next ignored) ∧
    ((v.toNat % 16 = 0 ∨ 3 < v.toNat % 16) → exec (.slotCommandUnknown n v) s = .next ignored)

/-! ## The event queue -/

/-- An offered record is masked, written to the tail with the lost count and the timestamp, or lost, and the holdoff timer and
the line follow (R149, R150, R153, R154). -/
def Obligations.OfferIsMaskedWrittenOrLost : Prop :=
  ∀ (e : EventQueue) (now : Nat) (o : Offer), e.Sound →
    let started := if e.holdoffSteps = 0 then Holdoff.runOut else .running (now + 8 * e.holdoffSteps.toNat)
    let holdoff := if e.records = [] then started else e.holdoff
    let count := e.records.length + 1
    (e.mask.getLsbD (o.kind.code - 1) = false → e.offer now o = e) ∧
    (e.mask.getLsbD (o.kind.code - 1) = true → e.records.length < 64 → e.offer now o = { e with
      records := e.records ++ [⟨o, e.lost, e.timestamp⟩], lost := 0, holdoff := holdoff,
      line := decide (e.irqEnable = true ∧ (e.threshold.toNat ≤ count ∨ holdoff = .runOut)) }) ∧
    (e.mask.getLsbD (o.kind.code - 1) = true → e.records.length = 64 →
      e.offer now o = { e with lost := if e.lost = 255#8 then 255#8 else e.lost + 1 })

/-- POP removes the head record and restarts or stops the holdoff timer, or is IGNORED on an empty queue, as is any other code
written to event control (R151, R153, R154, R161). -/
def Obligations.PopRemovesTheHead : Prop :=
  ∀ (s : State) (v : Word), s.Ready →
    let e := s.events
    let ignored := (s.setEvents { e with popResult := .ignored }).withAnswer .ack
    let restarted := if e.holdoffSteps = 0 then Holdoff.runOut else .running (s.now + 8 * e.holdoffSteps.toNat)
    (∀ head rest, e.records = head :: rest →
      let holdoff := if rest = [] then Holdoff.stopped else restarted
      exec .pop s = .next ((s.setEvents { e with
        records := rest, popResult := .done, holdoff := holdoff,
        line := decide (e.irqEnable = true ∧ (e.threshold.toNat ≤ rest.length ∨ (1 ≤ rest.length ∧ holdoff = .runOut)))
        }).withAnswer .ack)) ∧
    (e.records = [] → exec .pop s = .next ignored) ∧
    (v.toNat % 16 ≠ 1 → exec (.eventCommandUnknown v) s = .next ignored)

/-- A microsecond tick raises the timestamp counter by one, wrapping, unless the reset pin holds it at 0 (R152, R159); the end
time of a running holdoff timer makes it run out and judges the line anew (R153, R154); the discard timer of a READY or FAILED
slot frees it and offers READ_DISCARDED (R132). That the tick counts the model's clock, and that no other holdoff or discard
timer runs out, is the model's reading (log entries 5 and 6). -/
def Obligations.SharedTimersRun : Prop :=
  ∀ (s : State) (n : SlotId),
    let e := s.events
    (s.resetAsserted = false → exec .timestampTick s =
      .next { s with now := s.now + 1, events := { e with timestamp := BitVec.ofNat 32 (e.timestamp.toNat + 1) } }) ∧
    (s.resetAsserted = true → exec .timestampTick s = .next { s with now := s.now + 1 }) ∧
    (∀ endTime, e.holdoff = .running endTime → exec .holdoffTimerExpiry s = .next (s.setEvents { e with
      holdoff := .runOut,
      line := decide (e.irqEnable = true ∧ (e.threshold.toNat ≤ e.records.length ∨ 1 ≤ e.records.length)) })) ∧
    ((∀ endTime, e.holdoff ≠ .running endTime) → exec .holdoffTimerExpiry s = .next s) ∧
    (∀ slot cause, s.readSlot n = some slot →
      ((∃ data deadline, slot.state = .ready data deadline) ∧ cause = .ready ∨
        ∃ deadline, slot.state = .failed cause deadline) →
      exec (.discardTimerExpiry n) s = .next ((s.setReadSlot n none).offer
        ⟨.readDiscarded, slot.port, cause, slot.key.addr, .readSlot n slot.key.master⟩)) ∧
    ((∀ slot, s.readSlot n = some slot → slot.state = .pending) → exec (.discardTimerExpiry n) s = .next s)

/-! ## The resets -/

/-- The hardware reset brings every block to its reset value, whatever it held, and abandons the access in progress; releasing
the pin samples the configuration pins and lets the HBT decide again (R18, R122, R156, R159). That the line keeps its carrier, that
the recorded answer becomes idle and that releasing a released pin changes nothing is the model's reading (log entries 2, 14
and 6). -/
def Obligations.HardwareResetAndRelease : Prop :=
  ∀ (s : State) (pins : BitVec 4),
    (∃ t, exec .hardwareReset s = .next t ∧ t.resetAsserted = true ∧ t.chipResetDue = false ∧
      t.target = ⟨none, none, none⟩ ∧ t.pins = s.pins ∧ t.now = s.now ∧ t.answer = .idle ∧ t.pending = s.pending ∧
      (∀ p, t.port p = {
        priority := [], normal := [], postedIn := 0, postedDone := 0, postedDrop := 0, window := [], nextSeq := 0,
        resendRun := [], backoff := none, responseTimer := none, retransmissions := 0, staleResponses := 0,
        transmitter := none, receiver := .hunt false, carrier := (s.port p).carrier, crcErrors := 0, malformedFrames := 0,
        link := .off, phase := .none, probeSeq := none, probeTimer := none, lossCause := .none,
        station := ⟨false, 0, 0, 0, false⟩, effectiveWindow := 0, probeAttempts := 0, queue := .run, commandResult := .none,
        config := ⟨.r10, 4, 3, 8, true, 10, 25, 16⟩, mirrorLost := 0 }) ∧
      (∀ e, t.window e = ⟨false, .owned, 0, 0, 0, 0, false, false⟩) ∧
      (∀ n, t.readSlot n = none ∧
        t.request n = ⟨.idle, 0, .write, 0, 0, Vector.replicate 16 0, false, false, .none⟩) ∧
      t.reads.refusals = 0 ∧ t.reads.invalidations = 0 ∧ 8 * t.reads.discardSteps.toNat = 512 ∧
      t.events = ⟨[], 0, .none, .stopped, 0, 0x1FF, false, 1, 0, false⟩) ∧
    (s.resetAsserted = true → exec (.resetRelease pins) s = .next { s with resetAsserted := false, pins := pins }) ∧
    (s.resetAsserted = false → exec (.resetRelease pins) s = .next s)

/-- The chip reset is due after its command and taken as a happening of its own: every block takes its reset value but for the
settings R160 keeps (R108, R155, R158, R160). That the line keeps its carrier, and that a chip reset that is not due is not taken,
is the model's reading (log entries 2 and 6). -/
def Obligations.ChipResetKeepsTheSettings : Prop :=
  ∀ (s : State) (v : Word),
    (s.Ready → exec .chipReset s = .next { s with chipResetDue := true, answer := .ack }) ∧
    (s.Ready → v.toNat % 16 ≠ 1 → exec (.globalCommandUnknown v) s = .next (s.withAnswer .ack)) ∧
    (s.chipResetDue = false → exec .chipResetTaken s = .next s) ∧
    (s.chipResetDue = true → ∃ t, exec .chipResetTaken s = .next t ∧ t.chipResetDue = false ∧
      t.resetAsserted = s.resetAsserted ∧ t.target = ⟨none, none, none⟩ ∧ t.pins = s.pins ∧ t.now = s.now ∧
      t.answer = s.answer ∧ t.pending = s.pending ∧
      (∀ p, t.port p = {
        priority := [], normal := [], postedIn := 0, postedDone := 0, postedDrop := 0, window := [], nextSeq := 0,
        resendRun := [], backoff := none, responseTimer := none, retransmissions := 0, staleResponses := 0,
        transmitter := none, receiver := .hunt false, carrier := (s.port p).carrier, crcErrors := 0, malformedFrames := 0,
        link := .off, phase := .none, probeSeq := none, probeTimer := none, lossCause := .none,
        station := ⟨false, 0, 0, 0, false⟩, effectiveWindow := 0, probeAttempts := 0, queue := .run, commandResult := .none,
        config := (s.port p).config, mirrorLost := 0 }) ∧
      (∀ e, t.window e = { s.window e with enable := false }) ∧
      (∀ n, t.readSlot n = none ∧
        t.request n = ⟨.idle, 0, .write, 0, 0, Vector.replicate 16 0, false, false, .none⟩) ∧
      t.reads.refusals = 0 ∧ t.reads.invalidations = 0 ∧ t.reads.discardSteps = s.reads.discardSteps ∧
      t.events = ⟨[], 0, .none, .stopped, 0, s.events.mask, s.events.irqEnable, s.events.threshold, s.events.holdoffSteps,
        false⟩)

/-! ## Outcomes of records and the fault hold -/

/-- A completed record's producer is given its outcome as Table 3-4 lays down (R16, R62, R129, R142, R143). -/
def Obligations.CompletionReachesTheProducer : Prop :=
  ∀ (s : State) (p : PortId) (r : Record) (data : List Byte) (l : Leaving) (cause : Cause) (seq : Seq),
    (l = .refused cause seq ∨ l = .failed cause seq) →
    let q := s.port p
    let deadline := s.now + 8 * s.reads.discardSteps.toNat
    (r.source = .posted →
      s.settle p r (.ok data) = s.setPort p { q with postedDone := q.postedDone + 1 } ∧
      s.settle p r l = (s.setPort p { q with postedDrop := q.postedDrop + 1 }).offer
        ⟨.writeFault, p, cause, r.remote, .sequence seq⟩) ∧
    (∀ n slot, r.source = .read n → s.readSlot n = some slot → slot.state = .pending →
      s.settle p r (.ok data) = s.setReadSlot n (some { slot with state := .ready data deadline }) ∧
      s.settle p r l = s.setReadSlot n (some { slot with state := .failed cause deadline })) ∧
    ∀ n, r.source = .request n → (s.request n).state = .submitted →
      let x := s.request n
      let done := fun (t : State) (c : Cause) => if x.notify then t.offer ⟨.requestDone, x.port, c, 0, .requestSlot n⟩ else t
      s.settle p r l = done (s.setRequest n { x with state := .complete cause }) cause ∧
      ∃ b, s.settle p r (.ok data) = done (s.setRequest n { x with state := .complete .ok, buffer := b }) .ok ∧
        (r.operation = .write → b = x.buffer) ∧
        (r.operation = .read → ∀ j : Fin 16, b[j] = if h : j.val < data.length then data[j.val] else 0)

/-- Entering HELD removes every QUEUED READ record of the port and fails its slot with HELD (R84, R85). The loss of the link
returns the outstanding records to the fronts of their lanes, offers LINK_LOST with their number, stops the sequencer, starts
the re-probe interval if auto re-probe is on, and enters HELD (R14, R59, R74). -/
def Obligations.HoldAndLinkLoss : Prop :=
  ∀ (s : State) (p : PortId) (cause : Cause),
    let q := s.port p
    let waits := fun (r : Record) => r.isRead && !r.reserved
    let back := q.window.map Sent.record
    let lane := back.filter (fun r => r.lane == .normal) ++ q.normal
    (∃ t, t = s.hold p ∧ t.port p = { q with queue := .held, normal := q.normal.filter (fun r => !waits r) } ∧
      (∀ n, t.readSlot n = s.slotAfterRemoval .held (q.normal.filter waits) n) ∧
      (∀ r, r ≠ p → t.port r = s.port r) ∧ t.requests = s.requests ∧ t.events = s.events ∧ t.windows = s.windows ∧
      t.target = s.target ∧ t.reads.refusals = s.reads.refusals ∧ t.reads.invalidations = s.reads.invalidations) ∧
    ∃ t, t = s.loseLink p cause ∧
      t.port p = { q with
        window := [], resendRun := [], backoff := none, responseTimer := none, link := .lost, lossCause := cause,
        probeTimer := if q.config.autoReprobe then some (s.now + 1000 * q.config.probeInterval.toNat) else none,
        queue := .held, priority := back.filter (fun r => r.lane == .priority) ++ q.priority,
        normal := lane.filter (fun r => !waits r) } ∧
      (∀ n, t.readSlot n = s.slotAfterRemoval .held (lane.filter waits) n) ∧
      t.events = s.events.offer s.now ⟨.linkLost, p, cause, 0, .returned q.window.length⟩ ∧
      (∀ r, r ≠ p → t.port r = s.port r) ∧ t.requests = s.requests ∧ t.windows = s.windows ∧
      t.target = s.target ∧ t.reads.refusals = s.reads.refusals ∧ t.reads.invalidations = s.reads.invalidations

/-! ## Frames from the station -/

/-- An ACK for the oldest WRITE, a DATA frame of equal length for the oldest READ and a REJECT ADDRESS or DENIED for the oldest
complete it: its producer is given the outcome, a refused posted write makes the queue HELD, the response timer follows the new
oldest, an active backoff is cancelled with a run of what remains, and the arbiter chooses (R51, R53, R58, R61). -/
def Obligations.AnswerCompletesTheOldest : Prop :=
  ∀ (s : State) (p : PortId) (w : Sent) (rest : List Sent),
    (s.port p).link = .up → (s.port p).carrier = true → (s.port p).window = w :: rest →
    let q := s.port p
    let taken := s.setPort p { q with receiver := .hunt false, window := rest }
    let finish := fun (t : State) => (t.setPort p { t.port p with
      responseTimer := if rest = [] then none else some (s.now + 4 * q.config.timeoutSteps.toNat)
      resendRun := if q.backoff.isSome then rest.map Sent.seq else q.resendRun.filter (· != w.seq)
      backoff := none }).arbitrate p
    let refuse := fun (cause : Cause) =>
      let t := taken.settle p w.record (.refused cause w.seq)
      finish (if w.record.source = .posted then t.hold p else t)
    (w.record.operation = .write →
      exec (.ackFrameReceived p false w.seq) s = .next (finish (taken.settle p w.record (.ok [])))) ∧
    (∀ data : List Byte, w.record.operation = .read → data.length = w.record.length → 1 ≤ data.length → data.length ≤ 16 →
      exec (.dataFrameReceived p false w.seq data) s = .next (finish (taken.settle p w.record (.ok data)))) ∧
    ∀ e, exec (.rejectFrameReceived p false w.seq .address e) s = .next (refuse .address) ∧
      exec (.rejectFrameReceived p false w.seq .denied e) s = .next (refuse .denied)

/-- REJECT BUSY for the oldest begins busy backoff or, at the busy limit, exhausts it; REJECT SEQUENCE begins a run from the
oldest or, at the retry limit, exhausts it, or is a protocol error where it names no outstanding record (R54, R55, R56, R57). -/
def Obligations.BusyAndSequenceRefusals : Prop :=
  ∀ (s : State) (p : PortId) (r e : Seq),
    (s.port p).link = .up → (s.port p).carrier = true → (s.port p).backoff = none →
    let q := s.port p
    let exhausted := fun (w : Sent) (rest : List Sent) (cause : Cause) =>
      ((s.setPort p { q with receiver := .hunt false, window := rest }).settle p w.record (.failed cause w.seq)).loseLink p cause
    (∀ w rest, q.window = w :: rest →
      (w.busy < q.config.busyLimit.toNat → exec (.rejectFrameReceived p false w.seq .busy e) s = .next (s.setPort p { q with
        receiver := .hunt false, window := { w with busy := w.busy + 1 } :: rest, responseTimer := none, resendRun := [],
        backoff := some (s.now + 16 * q.config.backoffSteps.toNat) })) ∧
      (q.config.busyLimit.toNat ≤ w.busy →
        exec (.rejectFrameReceived p false w.seq .busy e) s = .next (exhausted w rest .busy)) ∧
      (e ∈ q.window.map Sent.seq → w.retry < q.config.retryLimit.toNat →
        exec (.rejectFrameReceived p false r .sequence e) s = .next ((s.setPort p { q with
          receiver := .hunt false, window := { w with retry := w.retry + 1 } :: rest,
          resendRun := (w :: rest).map Sent.seq }).arbitrate p)) ∧
      (e ∈ q.window.map Sent.seq → q.config.retryLimit.toNat ≤ w.retry →
        exec (.rejectFrameReceived p false r .sequence e) s = .next (exhausted w rest .timeout))) ∧
    (e ∉ q.window.map Sent.seq → exec (.rejectFrameReceived p false r .sequence e) s =
      .next ((s.setPort p { q with receiver := .hunt false }).loseLink p .protocol))

/-- A stale response is counted and changes nothing else (R48, R71, Table 3-2). -/
def Obligations.StaleResponsesAreCounted : Prop :=
  ∀ (s : State) (p : PortId) (r e : Seq) (data : List Byte) (cause : RejectCause) (cls : BitVec 16) (rev win : Byte),
    (s.port p).link ≠ .off → (s.port p).carrier = true → 1 ≤ data.length → data.length ≤ 16 → 1 ≤ win.toNat → win.toNat ≤ 8 →
    let q := s.port p
    let stale := s.setPort p { q with
      receiver := .hunt false
      staleResponses := if q.staleResponses = 65535#16 then 65535#16 else q.staleResponses + 1 }
    let ack := exec (.ackFrameReceived p false r) s
    let dataFrame := exec (.dataFrameReceived p false r data) s
    let reject := fun c => exec (.rejectFrameReceived p false r c e) s
    (q.link ≠ .up → ack = .next stale ∧ dataFrame = .next stale ∧ reject cause = .next stale) ∧
    (r ∉ q.window.map Sent.seq → q.link = .up →
      ack = .next stale ∧ dataFrame = .next stale ∧ (cause ≠ .sequence → reject cause = .next stale)) ∧
    (q.link = .up → q.backoff ≠ none → reject .sequence = .next stale ∧
      ∀ w rest, q.window = w :: rest → reject .busy = .next stale ∧ (r ≠ w.seq →
        ack = .next stale ∧ dataFrame = .next stale ∧ reject cause = .next stale)) ∧
    (¬ (q.link = .probing ∧ q.probeSeq = some r) → exec (.identFrameReceived p false r cls rev win) s = .next stale)

/-- A response for an outstanding record that is not the oldest is counted and, with no run active, raises the oldest's retry
count (R49, R50); an answer to the oldest of the wrong kind or length loses the link with cause PROTOCOL (R52). -/
def Obligations.OutOfOrderAndProtocolErrors : Prop :=
  ∀ (s : State) (p : PortId) (w : Sent) (rest : List Sent) (r e : Seq) (data : List Byte) (cause : RejectCause)
    (t : Host.Outcome State Fault Refusal),
    (s.port p).link = .up → (s.port p).carrier = true → (s.port p).window = w :: rest → 1 ≤ data.length → data.length ≤ 16 →
    let q := s.port p
    let count := if q.staleResponses = 65535#16 then 65535#16 else q.staleResponses + 1
    (q.backoff = none → r ∈ rest.map Sent.seq → r ≠ w.seq → cause ≠ .sequence →
      (t = exec (.ackFrameReceived p false r) s ∨ t = exec (.dataFrameReceived p false r data) s ∨
        t = exec (.rejectFrameReceived p false r cause e) s) →
      (q.resendRun ≠ [] → t = .next (s.setPort p { q with receiver := .hunt false, staleResponses := count })) ∧
      (q.resendRun = [] → w.retry < q.config.retryLimit.toNat → t = .next ((s.setPort p { q with
        receiver := .hunt false, staleResponses := count, window := { w with retry := w.retry + 1 } :: rest,
        resendRun := (w :: rest).map Sent.seq }).arbitrate p)) ∧
      (q.resendRun = [] → q.config.retryLimit.toNat ≤ w.retry → t = .next (((s.setPort p { q with
        receiver := .hunt false, staleResponses := count, window := rest }).settle p w.record
        (.failed .timeout w.seq)).loseLink p .timeout))) ∧
    (let lost := (s.setPort p { q with receiver := .hunt false }).loseLink p .protocol
     (w.record.operation = .read → exec (.ackFrameReceived p false w.seq) s = .next lost) ∧
     (w.record.operation = .write ∨ data.length ≠ w.record.length →
       exec (.dataFrameReceived p false w.seq data) s = .next lost))

/-- An IDENT that matches the probe sequence while PROBING brings the link UP (R42, R71, R72). -/
def Obligations.IdentBringsTheLinkUp : Prop :=
  ∀ (s : State) (p : PortId) (r : Seq) (cls : BitVec 16) (rev win : Byte),
    (s.port p).link = .probing → (s.port p).probeSeq = some r → (s.port p).carrier = true → 1 ≤ win.toNat → win.toNat ≤ 8 →
    let q := s.port p
    let changed := q.station.valid = true ∧ (cls ≠ q.station.cls ∨ rev ≠ q.station.revision)
    let s' := if changed then s.offer ⟨.stationChanged, p, .none, 0, .cls cls⟩ else s
    exec (.identFrameReceived p false r cls rev win) s = .next (((s'.setPort p { q with
      receiver := .hunt false
      station := ⟨true, cls, rev, BitVec.ofNat 4 win.toNat, if changed then false else q.station.attention⟩
      effectiveWindow := BitVec.ofNat 4 (min q.config.windowLimit.toNat win.toNat)
      nextSeq := r + 1
      probeTimer := none
      phase := .none
      probeSeq := none
      link := .up }).offer ⟨.linkUp, p, .none, 0, .identity cls rev⟩).arbitrate p)

/-- The attention flag of any good frame is taken after the frame, as R78 says of an accepted IDENT and the model reads of every
frame (log entry 4): a flag of 1 sets a latch of 0 and offers ATTENTION. -/
def Obligations.AttentionFlagSetsTheLatch : Prop :=
  ∀ (s : State) (p : PortId) (r e : Seq) (data : List Byte) (cause : RejectCause) (cls : BitVec 16) (rev win : Byte),
    (s.port p).link ≠ .off → (s.port p).carrier = true → 1 ≤ data.length → data.length ≤ 16 → 1 ≤ win.toNat → win.toNat ≤ 8 →
    let latched := fun (t : State) => if (t.port p).station.attention = true then t else (t.setPort p { t.port p with
      station := { (t.port p).station with attention := true } }).offer ⟨.attention, p, .none, 0, .none⟩
    (∃ t, exec (.ackFrameReceived p false r) s = .next t ∧ exec (.ackFrameReceived p true r) s = .next (latched t)) ∧
    (∃ t, exec (.dataFrameReceived p false r data) s = .next t ∧
      exec (.dataFrameReceived p true r data) s = .next (latched t)) ∧
    (∃ t, exec (.rejectFrameReceived p false r cause e) s = .next t ∧
      exec (.rejectFrameReceived p true r cause e) s = .next (latched t)) ∧
    ∃ t, exec (.identFrameReceived p false r cls rev win) s = .next t ∧
      exec (.identFrameReceived p true r cls rev win) s = .next (latched t)

/-- The receiver, hunting, takes the bytes of any good station frame for exactly that frame, and hunts again (R30 to R34,
R163). -/
def Obligations.StationFramesAreReceived : Prop :=
  ∀ (f : StationFrame) (armed : Bool), f.good = true → receiveBytes (.hunt armed) f.bytes = (.hunt false, [.good f])

/-- A frame whose CRC does not agree raises the CRC-error counter; one with a malformed header or body field raises the
malformed-frame counter; neither changes anything else (R32, R33, R34). -/
def Obligations.DamagedFramesAreCounted : Prop :=
  ∀ (s : State) (p : PortId) (armed : Bool),
    (s.port p).link ≠ .off → (s.port p).carrier = true → (s.port p).receiver = .hunt armed →
    let q := s.port p
    let malformed := s.setPort p { q with
      receiver := .hunt false
      malformedFrames := if q.malformedFrames = 65535#16 then 65535#16 else q.malformedFrames + 1 }
    (∀ (f : StationFrame) (hi lo : Byte), f.good = true → hi ++ lo ≠ crc f.headerAndBody →
      exec (.crcErrorFrame p (0xC3#8 :: 0x5A#8 :: f.headerAndBody ++ [hi, lo])) s = .next (s.setPort p { q with
        receiver := .hunt false
        crcErrors := if q.crcErrors = 65535#16 then 65535#16 else q.crcErrors + 1 })) ∧
    (∀ b0 b1 b2 : Byte,
      let kind := b0.toNat % 16
      ¬ (b1.toNat < 16 ∧ (kind = 8 ∧ b2 = 0 ∨ kind = 9 ∧ 1 ≤ b2.toNat ∧ b2.toNat ≤ 16 ∨ kind = 10 ∧ b2 = 2 ∨
        kind = 11 ∧ b2 = 4)) →
      exec (.malformedFrame p [0xC3, 0x5A, b0, b1, b2]) s = .next malformed) ∧
    (∀ (attention : Bool) (r : Seq) (cls : BitVec 16) (rev win : Byte), win.toNat = 0 ∨ 8 < win.toNat →
      exec (.malformedFrame p (StationFrame.bytes ⟨attention, r, .ident cls rev win⟩)) s = .next malformed) ∧
    ∀ (r : Seq) (cause expected : Byte), cause.toNat = 0 ∨ 4 < cause.toNat ∨ 16 ≤ expected.toNat →
      exec (.malformedFrame p (framed [10, r.setWidth 8, 2, cause, expected])) s = .next malformed

/-! ## The transmitter and the timers of a port -/

/-- The arbiter of a free transmitter chooses the earliest record of the resend run, a due PROBE, the PRIORITY head or the
NORMAL head, in that order and as the link state, the backoff and eligibility allow; what begins is as R13, R26, R41, R45 and
R69 lay down (R12, R25). -/
def Obligations.ArbiterChoosesInOrder : Prop :=
  ∀ q : Port, q.QueueSound →
    let idle := q.transmitter = none ∧ q.link = .up ∧ q.backoff = none
    let room := q.window.length < q.effectiveWindow.toNat
    let frame := fun (r : Record) (n : Seq) =>
      if r.operation = .write then BridgeFrame.write n r.remote r.data else .read n r.remote r.length
    let issued := fun (r : Record) (x : Port) => { x with
      window := q.window ++ [⟨r, q.nextSeq, 0, 0⟩]
      nextSeq := q.nextSeq + 1
      transmitter := some ⟨frame r q.nextSeq, false⟩ }
    let noPriority := q.priority = [] ∨ ¬ room
    (q.transmitter ≠ none ∨ q.link = .off ∨ q.link = .lost ∨ (q.link = .probing ∧ q.phase ≠ .due) ∨
      (q.link = .up ∧ q.backoff ≠ none) → q.arbitrate = q) ∧
    (q.transmitter = none → q.link = .probing → q.phase = .due → q.arbitrate = { q with
      phase := .sending, probeSeq := some q.nextSeq, transmitter := some ⟨.probe q.nextSeq, false⟩ }) ∧
    (∀ n others, idle → q.resendRun = n :: others → ∃ w ∈ q.window, w.seq = n ∧ q.arbitrate = { q with
      resendRun := q.resendRun.filter (· != n), transmitter := some ⟨frame w.record n, true⟩,
      retransmissions := if q.retransmissions = 65535#16 then 65535#16 else q.retransmissions + 1 }) ∧
    (∀ r lane, idle → q.resendRun = [] → q.priority = r :: lane → room →
      q.arbitrate = issued r { q with priority := lane }) ∧
    (∀ r lane, idle → q.resendRun = [] → noPriority → q.normal = r :: lane → room → q.queue = .run → r.reserved = false →
      q.arbitrate = issued r { q with normal := lane }) ∧
    (idle → q.resendRun = [] → noPriority →
      (¬ room ∨ q.queue = .held ∨ q.normal = [] ∨ ∃ r lane, q.normal = r :: lane ∧ r.reserved = true) → q.arbitrate = q)

/-- The end of a transmission frees the transmitter; it restarts the response timer for the oldest unless backoff is active, or
starts the response wait of a PROBE in SENDING, or is reported to no one; and the arbiter chooses (R27, R43, R69). A free
transmitter ends nothing (log entry 6), and a frame is matched with its record by its sequence (log entry 13). That the end of any
frame of the oldest restarts a timer that ran out while that frame was on the line, and not the end of the resend alone, as R44
has it, is the model's choice (log entry 19). -/
def Obligations.TransmissionEndIsReported : Prop :=
  ∀ (s : State) (p : PortId),
    let q := s.port p
    let ends := some (s.now + 4 * q.config.timeoutSteps.toNat)
    (q.transmitter = none → exec (.transmissionEnd p) s = .next s) ∧
    ∀ f resend, q.transmitter = some ⟨f, resend⟩ →
      let probes := (∃ n, f = .probe n) ∧ q.link = .probing ∧ q.phase = .sending
      let times := (∀ n, f ≠ .probe n) ∧ (∃ w rest, q.window = w :: rest ∧ w.seq = f.seq) ∧ q.backoff = none
      (probes → exec (.transmissionEnd p) s = .next ((s.setPort p { q with
        transmitter := none, phase := .waiting, probeTimer := ends }).arbitrate p)) ∧
      (times → exec (.transmissionEnd p) s = .next ((s.setPort p { q with
        transmitter := none, responseTimer := ends }).arbitrate p)) ∧
      (¬ probes → ¬ times → exec (.transmissionEnd p) s = .next ((s.setPort p { q with transmitter := none }).arbitrate p))

/-- The response timer's expiry raises the oldest's retry count and begins a run, or exhausts it with TIMEOUT at the limit; the
end of a busy backoff begins a run from the oldest (R44, R56, R57, R58). A stopped timer and an inactive backoff do nothing (log entry
6). -/
def Obligations.SequencerTimersExpire : Prop :=
  ∀ (s : State) (p : PortId),
    let q := s.port p
    (∀ w rest, q.responseTimer ≠ none → q.window = w :: rest →
      (w.retry < q.config.retryLimit.toNat → exec (.responseTimerExpiry p) s = .next ((s.setPort p { q with
        responseTimer := none, window := { w with retry := w.retry + 1 } :: rest,
        resendRun := (w :: rest).map Sent.seq }).arbitrate p)) ∧
      (q.config.retryLimit.toNat ≤ w.retry → exec (.responseTimerExpiry p) s = .next (((s.setPort p { q with
        responseTimer := none, window := rest }).settle p w.record (.failed .timeout w.seq)).loseLink p .timeout))) ∧
    (q.responseTimer = none → exec (.responseTimerExpiry p) s = .next s) ∧
    (q.backoff ≠ none → exec (.busyBackoffEnd p) s = .next ((s.setPort p { q with
      backoff := none, resendRun := q.window.map Sent.seq }).arbitrate p)) ∧
    (q.backoff = none → exec (.busyBackoffEnd p) s = .next s)

/-- The end of a response wait fails the probe attempt; the end of a probe interval makes the next probe fall due; RESTART and
the end of a re-probe interval make a LOST link PROBING with a probe due, and leave the queue, the lanes and the loss cause
(R68, R70, R76, R80, R92). A stopped timer does nothing (log entry 6). -/
def Obligations.ProbesFallDueAndFail : Prop :=
  ∀ (s : State) (p : PortId),
    let q := s.port p
    let interval := some (s.now + 1000 * q.config.probeInterval.toNat)
    let due := fun (x : Port) =>
      if q.carrier then { x with phase := .due, probeTimer := none } else { x with phase := .resting, probeTimer := interval }
    let reprobe := due { q with link := .probing, probeSeq := none }
    (q.probeTimer ≠ none → q.link = .probing → q.phase = .waiting →
      exec (.probeResponseWaitExpiry p) s = .next (s.setPort p { q with
        phase := .resting, probeTimer := interval
        probeAttempts := if q.probeAttempts = 65535#16 then 65535#16 else q.probeAttempts + 1 })) ∧
    (q.probeTimer ≠ none → q.link = .probing → q.phase = .resting →
      exec (.probeIntervalExpiry p) s = .next ((s.setPort p (due q)).arbitrate p)) ∧
    (q.probeTimer ≠ none → q.link = .lost →
      exec (.reprobeIntervalExpiry p) s = .next ((s.setPort p reprobe).arbitrate p)) ∧
    (s.Ready → q.link = .lost → exec (.restart p) s =
      .next (((s.setPort p { reprobe with commandResult := .done }).arbitrate p).withAnswer .ack)) ∧
    (q.probeTimer = none → exec (.probeResponseWaitExpiry p) s = .next s ∧ exec (.probeIntervalExpiry p) s = .next s ∧
      exec (.reprobeIntervalExpiry p) s = .next s)

/-- The loss of carrier discards a partial frame, counted unless the port is OFF, and loses an UP link with cause CARRIER; its
return starts the hunt anew and changes nothing else (R35, R36, R75). A carrier that is already as the indication says stays so
(log entry 6). -/
def Obligations.CarrierChanges : Prop :=
  ∀ (s : State) (p : PortId),
    let q := s.port p
    let count := if q.malformedFrames = 65535#16 then 65535#16 else q.malformedFrames + 1
    let gone := s.setPort p { q with
      receiver := .hunt false
      carrier := false
      malformedFrames := if q.link ≠ .off ∧ q.receiver.hunting = false then count else q.malformedFrames }
    (q.carrier = true → q.link = .up → exec (.carrierLost p) s = .next (gone.loseLink p .carrier)) ∧
    (q.carrier = true → q.link ≠ .up → exec (.carrierLost p) s = .next gone) ∧
    (q.carrier = false → exec (.carrierLost p) s = .next s) ∧
    (q.carrier = false → exec (.carrierRegained p) s =
      .next (s.setPort p { q with receiver := .hunt false, carrier := true })) ∧
    (q.carrier = true → exec (.carrierRegained p) s = .next s)

/-! ## Frames the bridge builds -/

/-- A bridge frame is built byte by byte as Tables 2-1, 11-9 and 11-10 lay down (R19, R21, R23, R163), and a frame passes its
CRC check exactly when the computation over it and its two CRC bytes leaves 0 (R22). -/
def Obligations.FramesAreBuiltAndChecked : Prop :=
  (∀ (n : Seq) (a : Word) (d : List Byte),
    let address := [a.extractLsb' 24 8, a.extractLsb' 16 8, a.extractLsb' 8 8, a.extractLsb' 0 8]
    let whole := fun (b : List Byte) => [0xC3#8, 0x5A#8] ++ b ++ [(crc b).extractLsb' 8 8, (crc b).extractLsb' 0 8]
    (BridgeFrame.write n a d).bytes = whole ([1#8, n.setWidth 8, BitVec.ofNat 8 d.length] ++ address ++ d) ∧
    (∀ k, (BridgeFrame.read n a k).bytes = whole ([2#8, n.setWidth 8, BitVec.ofNat 8 k] ++ address)) ∧
    (BridgeFrame.probe n).bytes = whole [3#8, n.setWidth 8, 0#8]) ∧
  ∀ (b : List Byte) (hi lo : Byte), crc (b ++ [hi, lo]) = 0 ↔ hi ++ lo = crc b
end

