-- ==== Sys2Proof/Laws/State.lean ====
section
/-! SUPPORT. One lemma per field per update of `State`, so that no later proof unfolds a record update: what each update
changes, and what it leaves. -/

namespace Sys2Proof.Machine

/-! ## What an update changes -/

theorem State.setPort_port (s : State) (p : PortId) (q : Port) (r : PortId) :
    (s.setPort p q).port r = if r = p then q else s.port r := by
  unfold State.setPort State.port
  by_cases h : r = p
  · subst h; simp
  · simp only [h, if_false, Fin.getElem_fin]
    exact Vector.getElem_set_ne _ _ (fun he => h (Fin.ext he.symm))

@[simp] theorem State.setPort_port_self (s : State) (p : PortId) (q : Port) : (s.setPort p q).port p = q := by
  simp [State.setPort_port]

theorem State.setPort_port_ne (s : State) {p r : PortId} (q : Port) (h : r ≠ p) : (s.setPort p q).port r = s.port r := by
  simp [State.setPort_port, h]

theorem State.modPort_port (s : State) (p : PortId) (f : Port → Port) (r : PortId) :
    (s.modPort p f).port r = if r = p then f (s.port p) else s.port r := State.setPort_port _ _ _ _

@[simp] theorem State.modPort_port_self (s : State) (p : PortId) (f : Port → Port) : (s.modPort p f).port p = f (s.port p) :=
  State.setPort_port_self _ _ _

theorem State.modPort_port_ne (s : State) {p r : PortId} (f : Port → Port) (h : r ≠ p) : (s.modPort p f).port r = s.port r :=
  State.setPort_port_ne _ _ h

@[simp] theorem State.arbitrate_port_self (s : State) (p : PortId) : (s.arbitrate p).port p = (s.port p).arbitrate :=
  State.modPort_port_self _ _ _

theorem State.arbitrate_port (s : State) (p r : PortId) :
    (s.arbitrate p).port r = if r = p then (s.port p).arbitrate else s.port r := State.modPort_port _ _ _ _

theorem State.setWindow_window (s : State) (e : EntryId) (w : WindowEntry) (i : EntryId) :
    (s.setWindow e w).window i = if i = e then w else s.window i := by
  unfold State.setWindow State.window
  by_cases h : i = e
  · subst h; simp
  · simp only [h, if_false, Fin.getElem_fin]
    exact Vector.getElem_set_ne _ _ (fun he => h (Fin.ext he.symm))

@[simp] theorem State.setReads_reads (s : State) (d : DelayedReads) : (s.setReads d).reads = d := rfl

theorem State.setReads_readSlot (s : State) (d : DelayedReads) (n : SlotId) : (s.setReads d).readSlot n = d.slots[n] := rfl

theorem DelayedReads.setSlot_slots (d : DelayedReads) (n : SlotId) (x : Option ReadSlot) (i : SlotId) :
    (d.setSlot n x).slots[i] = if i = n then x else d.slots[i] := by
  unfold DelayedReads.setSlot
  by_cases h : i = n
  · subst h; simp
  · simp only [h, if_false, Fin.getElem_fin]
    exact Vector.getElem_set_ne _ _ (fun he => h (Fin.ext he.symm))

theorem State.setReadSlot_readSlot (s : State) (n : SlotId) (x : Option ReadSlot) (i : SlotId) :
    (s.setReadSlot n x).readSlot i = if i = n then x else s.readSlot i := DelayedReads.setSlot_slots _ _ _ _

@[simp] theorem State.setReadSlot_reads (s : State) (n : SlotId) (x : Option ReadSlot) :
    (s.setReadSlot n x).reads = s.reads.setSlot n x := rfl

@[simp] theorem DelayedReads.setSlot_refusals (d : DelayedReads) (n : SlotId) (x : Option ReadSlot) :
    (d.setSlot n x).refusals = d.refusals := rfl

@[simp] theorem DelayedReads.setSlot_invalidations (d : DelayedReads) (n : SlotId) (x : Option ReadSlot) :
    (d.setSlot n x).invalidations = d.invalidations := rfl

@[simp] theorem DelayedReads.setSlot_discardSteps (d : DelayedReads) (n : SlotId) (x : Option ReadSlot) :
    (d.setSlot n x).discardSteps = d.discardSteps := rfl

theorem State.setRequest_request (s : State) (n : SlotId) (q : RequestSlot) (i : SlotId) :
    (s.setRequest n q).request i = if i = n then q else s.request i := by
  unfold State.setRequest State.request
  by_cases h : i = n
  · subst h; simp
  · simp only [h, if_false, Fin.getElem_fin]
    exact Vector.getElem_set_ne _ _ (fun he => h (Fin.ext he.symm))

@[simp] theorem State.setRequest_request_self (s : State) (n : SlotId) (q : RequestSlot) : (s.setRequest n q).request n = q := by
  simp [State.setRequest_request]

@[simp] theorem State.setEvents_events (s : State) (e : EventQueue) : (s.setEvents e).events = e := rfl

@[simp] theorem State.setTarget_target (s : State) (t : HostTarget) : (s.setTarget t).target = t := rfl

@[simp] theorem State.withAnswer_answer (s : State) (a : Answer) : (s.withAnswer a).answer = a := rfl

@[simp] theorem State.pass_target (s : State) (a : HeldAccess) : (s.pass a).target = { s.target with access := some a } := rfl

@[simp] theorem State.pass_answer (s : State) (a : HeldAccess) : (s.pass a).answer = .pass := rfl

@[simp] theorem HeldAccess.data_write (m : MasterId) (a : Word) (d : WriteData) (x : Option MirrorTarget) :
    HeldAccess.data ⟨m, a, .write d, x⟩ = d.bytes := rfl

@[simp] theorem HeldAccess.data_read (m : MasterId) (a : Word) (z : Size) (x : Option MirrorTarget) :
    HeldAccess.data ⟨m, a, .read z, x⟩ = [] := rfl

theorem State.offer_events (s : State) (o : Offer) : (s.offer o).events = s.events.offer s.now o := rfl

/-! ## What an update leaves -/

/-! ### `setPort` -/

@[simp] theorem State.setPort_windows (s : State) (p : PortId) (q : Port) : (s.setPort p q).windows = s.windows := rfl
@[simp] theorem State.setPort_reads (s : State) (p : PortId) (q : Port) : (s.setPort p q).reads = s.reads := rfl
@[simp] theorem State.setPort_requests (s : State) (p : PortId) (q : Port) : (s.setPort p q).requests = s.requests := rfl
@[simp] theorem State.setPort_events (s : State) (p : PortId) (q : Port) : (s.setPort p q).events = s.events := rfl
@[simp] theorem State.setPort_target (s : State) (p : PortId) (q : Port) : (s.setPort p q).target = s.target := rfl
@[simp] theorem State.setPort_resetAsserted (s : State) (p : PortId) (q : Port) : (s.setPort p q).resetAsserted = s.resetAsserted := rfl
@[simp] theorem State.setPort_chipResetDue (s : State) (p : PortId) (q : Port) : (s.setPort p q).chipResetDue = s.chipResetDue := rfl
@[simp] theorem State.setPort_pins (s : State) (p : PortId) (q : Port) : (s.setPort p q).pins = s.pins := rfl
@[simp] theorem State.setPort_now (s : State) (p : PortId) (q : Port) : (s.setPort p q).now = s.now := rfl
@[simp] theorem State.setPort_answer (s : State) (p : PortId) (q : Port) : (s.setPort p q).answer = s.answer := rfl
@[simp] theorem State.setPort_pending (s : State) (p : PortId) (q : Port) : (s.setPort p q).pending = s.pending := rfl
@[simp] theorem State.setPort_window (s : State) (p : PortId) (q : Port) (i : EntryId) : (s.setPort p q).window i = s.window i := rfl
@[simp] theorem State.setPort_readSlot (s : State) (p : PortId) (q : Port) (i : SlotId) : (s.setPort p q).readSlot i = s.readSlot i := rfl
@[simp] theorem State.setPort_request (s : State) (p : PortId) (q : Port) (i : SlotId) : (s.setPort p q).request i = s.request i := rfl

/-! ### `modPort` -/

@[simp] theorem State.modPort_windows (s : State) (p : PortId) (f : Port → Port) : (s.modPort p f).windows = s.windows := rfl
@[simp] theorem State.modPort_reads (s : State) (p : PortId) (f : Port → Port) : (s.modPort p f).reads = s.reads := rfl
@[simp] theorem State.modPort_requests (s : State) (p : PortId) (f : Port → Port) : (s.modPort p f).requests = s.requests := rfl
@[simp] theorem State.modPort_events (s : State) (p : PortId) (f : Port → Port) : (s.modPort p f).events = s.events := rfl
@[simp] theorem State.modPort_target (s : State) (p : PortId) (f : Port → Port) : (s.modPort p f).target = s.target := rfl
@[simp] theorem State.modPort_resetAsserted (s : State) (p : PortId) (f : Port → Port) : (s.modPort p f).resetAsserted = s.resetAsserted := rfl
@[simp] theorem State.modPort_chipResetDue (s : State) (p : PortId) (f : Port → Port) : (s.modPort p f).chipResetDue = s.chipResetDue := rfl
@[simp] theorem State.modPort_pins (s : State) (p : PortId) (f : Port → Port) : (s.modPort p f).pins = s.pins := rfl
@[simp] theorem State.modPort_now (s : State) (p : PortId) (f : Port → Port) : (s.modPort p f).now = s.now := rfl
@[simp] theorem State.modPort_answer (s : State) (p : PortId) (f : Port → Port) : (s.modPort p f).answer = s.answer := rfl
@[simp] theorem State.modPort_pending (s : State) (p : PortId) (f : Port → Port) : (s.modPort p f).pending = s.pending := rfl
@[simp] theorem State.modPort_window (s : State) (p : PortId) (f : Port → Port) (i : EntryId) : (s.modPort p f).window i = s.window i := rfl
@[simp] theorem State.modPort_readSlot (s : State) (p : PortId) (f : Port → Port) (i : SlotId) : (s.modPort p f).readSlot i = s.readSlot i := rfl
@[simp] theorem State.modPort_request (s : State) (p : PortId) (f : Port → Port) (i : SlotId) : (s.modPort p f).request i = s.request i := rfl

/-! ### `setWindow` -/

@[simp] theorem State.setWindow_ports (s : State) (e : EntryId) (w : WindowEntry) : (s.setWindow e w).ports = s.ports := rfl
@[simp] theorem State.setWindow_reads (s : State) (e : EntryId) (w : WindowEntry) : (s.setWindow e w).reads = s.reads := rfl
@[simp] theorem State.setWindow_requests (s : State) (e : EntryId) (w : WindowEntry) : (s.setWindow e w).requests = s.requests := rfl
@[simp] theorem State.setWindow_events (s : State) (e : EntryId) (w : WindowEntry) : (s.setWindow e w).events = s.events := rfl
@[simp] theorem State.setWindow_target (s : State) (e : EntryId) (w : WindowEntry) : (s.setWindow e w).target = s.target := rfl
@[simp] theorem State.setWindow_resetAsserted (s : State) (e : EntryId) (w : WindowEntry) : (s.setWindow e w).resetAsserted = s.resetAsserted := rfl
@[simp] theorem State.setWindow_chipResetDue (s : State) (e : EntryId) (w : WindowEntry) : (s.setWindow e w).chipResetDue = s.chipResetDue := rfl
@[simp] theorem State.setWindow_pins (s : State) (e : EntryId) (w : WindowEntry) : (s.setWindow e w).pins = s.pins := rfl
@[simp] theorem State.setWindow_now (s : State) (e : EntryId) (w : WindowEntry) : (s.setWindow e w).now = s.now := rfl
@[simp] theorem State.setWindow_answer (s : State) (e : EntryId) (w : WindowEntry) : (s.setWindow e w).answer = s.answer := rfl
@[simp] theorem State.setWindow_pending (s : State) (e : EntryId) (w : WindowEntry) : (s.setWindow e w).pending = s.pending := rfl
@[simp] theorem State.setWindow_port (s : State) (e : EntryId) (w : WindowEntry) (i : PortId) : (s.setWindow e w).port i = s.port i := rfl
@[simp] theorem State.setWindow_readSlot (s : State) (e : EntryId) (w : WindowEntry) (i : SlotId) : (s.setWindow e w).readSlot i = s.readSlot i := rfl
@[simp] theorem State.setWindow_request (s : State) (e : EntryId) (w : WindowEntry) (i : SlotId) : (s.setWindow e w).request i = s.request i := rfl

/-! ### `setReads` -/

@[simp] theorem State.setReads_ports (s : State) (d : DelayedReads) : (s.setReads d).ports = s.ports := rfl
@[simp] theorem State.setReads_windows (s : State) (d : DelayedReads) : (s.setReads d).windows = s.windows := rfl
@[simp] theorem State.setReads_requests (s : State) (d : DelayedReads) : (s.setReads d).requests = s.requests := rfl
@[simp] theorem State.setReads_events (s : State) (d : DelayedReads) : (s.setReads d).events = s.events := rfl
@[simp] theorem State.setReads_target (s : State) (d : DelayedReads) : (s.setReads d).target = s.target := rfl
@[simp] theorem State.setReads_resetAsserted (s : State) (d : DelayedReads) : (s.setReads d).resetAsserted = s.resetAsserted := rfl
@[simp] theorem State.setReads_chipResetDue (s : State) (d : DelayedReads) : (s.setReads d).chipResetDue = s.chipResetDue := rfl
@[simp] theorem State.setReads_pins (s : State) (d : DelayedReads) : (s.setReads d).pins = s.pins := rfl
@[simp] theorem State.setReads_now (s : State) (d : DelayedReads) : (s.setReads d).now = s.now := rfl
@[simp] theorem State.setReads_answer (s : State) (d : DelayedReads) : (s.setReads d).answer = s.answer := rfl
@[simp] theorem State.setReads_pending (s : State) (d : DelayedReads) : (s.setReads d).pending = s.pending := rfl
@[simp] theorem State.setReads_port (s : State) (d : DelayedReads) (i : PortId) : (s.setReads d).port i = s.port i := rfl
@[simp] theorem State.setReads_window (s : State) (d : DelayedReads) (i : EntryId) : (s.setReads d).window i = s.window i := rfl
@[simp] theorem State.setReads_request (s : State) (d : DelayedReads) (i : SlotId) : (s.setReads d).request i = s.request i := rfl

/-! ### `setReadSlot` -/

@[simp] theorem State.setReadSlot_ports (s : State) (n : SlotId) (x : Option ReadSlot) : (s.setReadSlot n x).ports = s.ports := rfl
@[simp] theorem State.setReadSlot_windows (s : State) (n : SlotId) (x : Option ReadSlot) : (s.setReadSlot n x).windows = s.windows := rfl
@[simp] theorem State.setReadSlot_requests (s : State) (n : SlotId) (x : Option ReadSlot) : (s.setReadSlot n x).requests = s.requests := rfl
@[simp] theorem State.setReadSlot_events (s : State) (n : SlotId) (x : Option ReadSlot) : (s.setReadSlot n x).events = s.events := rfl
@[simp] theorem State.setReadSlot_target (s : State) (n : SlotId) (x : Option ReadSlot) : (s.setReadSlot n x).target = s.target := rfl
@[simp] theorem State.setReadSlot_resetAsserted (s : State) (n : SlotId) (x : Option ReadSlot) : (s.setReadSlot n x).resetAsserted = s.resetAsserted := rfl
@[simp] theorem State.setReadSlot_chipResetDue (s : State) (n : SlotId) (x : Option ReadSlot) : (s.setReadSlot n x).chipResetDue = s.chipResetDue := rfl
@[simp] theorem State.setReadSlot_pins (s : State) (n : SlotId) (x : Option ReadSlot) : (s.setReadSlot n x).pins = s.pins := rfl
@[simp] theorem State.setReadSlot_now (s : State) (n : SlotId) (x : Option ReadSlot) : (s.setReadSlot n x).now = s.now := rfl
@[simp] theorem State.setReadSlot_answer (s : State) (n : SlotId) (x : Option ReadSlot) : (s.setReadSlot n x).answer = s.answer := rfl
@[simp] theorem State.setReadSlot_pending (s : State) (n : SlotId) (x : Option ReadSlot) : (s.setReadSlot n x).pending = s.pending := rfl
@[simp] theorem State.setReadSlot_port (s : State) (n : SlotId) (x : Option ReadSlot) (i : PortId) : (s.setReadSlot n x).port i = s.port i := rfl
@[simp] theorem State.setReadSlot_window (s : State) (n : SlotId) (x : Option ReadSlot) (i : EntryId) : (s.setReadSlot n x).window i = s.window i := rfl
@[simp] theorem State.setReadSlot_request (s : State) (n : SlotId) (x : Option ReadSlot) (i : SlotId) : (s.setReadSlot n x).request i = s.request i := rfl

/-! ### `setRequest` -/

@[simp] theorem State.setRequest_ports (s : State) (n : SlotId) (q : RequestSlot) : (s.setRequest n q).ports = s.ports := rfl
@[simp] theorem State.setRequest_windows (s : State) (n : SlotId) (q : RequestSlot) : (s.setRequest n q).windows = s.windows := rfl
@[simp] theorem State.setRequest_reads (s : State) (n : SlotId) (q : RequestSlot) : (s.setRequest n q).reads = s.reads := rfl
@[simp] theorem State.setRequest_events (s : State) (n : SlotId) (q : RequestSlot) : (s.setRequest n q).events = s.events := rfl
@[simp] theorem State.setRequest_target (s : State) (n : SlotId) (q : RequestSlot) : (s.setRequest n q).target = s.target := rfl
@[simp] theorem State.setRequest_resetAsserted (s : State) (n : SlotId) (q : RequestSlot) : (s.setRequest n q).resetAsserted = s.resetAsserted := rfl
@[simp] theorem State.setRequest_chipResetDue (s : State) (n : SlotId) (q : RequestSlot) : (s.setRequest n q).chipResetDue = s.chipResetDue := rfl
@[simp] theorem State.setRequest_pins (s : State) (n : SlotId) (q : RequestSlot) : (s.setRequest n q).pins = s.pins := rfl
@[simp] theorem State.setRequest_now (s : State) (n : SlotId) (q : RequestSlot) : (s.setRequest n q).now = s.now := rfl
@[simp] theorem State.setRequest_answer (s : State) (n : SlotId) (q : RequestSlot) : (s.setRequest n q).answer = s.answer := rfl
@[simp] theorem State.setRequest_pending (s : State) (n : SlotId) (q : RequestSlot) : (s.setRequest n q).pending = s.pending := rfl
@[simp] theorem State.setRequest_port (s : State) (n : SlotId) (q : RequestSlot) (i : PortId) : (s.setRequest n q).port i = s.port i := rfl
@[simp] theorem State.setRequest_window (s : State) (n : SlotId) (q : RequestSlot) (i : EntryId) : (s.setRequest n q).window i = s.window i := rfl
@[simp] theorem State.setRequest_readSlot (s : State) (n : SlotId) (q : RequestSlot) (i : SlotId) : (s.setRequest n q).readSlot i = s.readSlot i := rfl

/-! ### `setEvents` -/

@[simp] theorem State.setEvents_ports (s : State) (e : EventQueue) : (s.setEvents e).ports = s.ports := rfl
@[simp] theorem State.setEvents_windows (s : State) (e : EventQueue) : (s.setEvents e).windows = s.windows := rfl
@[simp] theorem State.setEvents_reads (s : State) (e : EventQueue) : (s.setEvents e).reads = s.reads := rfl
@[simp] theorem State.setEvents_requests (s : State) (e : EventQueue) : (s.setEvents e).requests = s.requests := rfl
@[simp] theorem State.setEvents_target (s : State) (e : EventQueue) : (s.setEvents e).target = s.target := rfl
@[simp] theorem State.setEvents_resetAsserted (s : State) (e : EventQueue) : (s.setEvents e).resetAsserted = s.resetAsserted := rfl
@[simp] theorem State.setEvents_chipResetDue (s : State) (e : EventQueue) : (s.setEvents e).chipResetDue = s.chipResetDue := rfl
@[simp] theorem State.setEvents_pins (s : State) (e : EventQueue) : (s.setEvents e).pins = s.pins := rfl
@[simp] theorem State.setEvents_now (s : State) (e : EventQueue) : (s.setEvents e).now = s.now := rfl
@[simp] theorem State.setEvents_answer (s : State) (e : EventQueue) : (s.setEvents e).answer = s.answer := rfl
@[simp] theorem State.setEvents_pending (s : State) (e : EventQueue) : (s.setEvents e).pending = s.pending := rfl
@[simp] theorem State.setEvents_port (s : State) (e : EventQueue) (i : PortId) : (s.setEvents e).port i = s.port i := rfl
@[simp] theorem State.setEvents_window (s : State) (e : EventQueue) (i : EntryId) : (s.setEvents e).window i = s.window i := rfl
@[simp] theorem State.setEvents_readSlot (s : State) (e : EventQueue) (i : SlotId) : (s.setEvents e).readSlot i = s.readSlot i := rfl
@[simp] theorem State.setEvents_request (s : State) (e : EventQueue) (i : SlotId) : (s.setEvents e).request i = s.request i := rfl

/-! ### `setTarget` -/

@[simp] theorem State.setTarget_ports (s : State) (t : HostTarget) : (s.setTarget t).ports = s.ports := rfl
@[simp] theorem State.setTarget_windows (s : State) (t : HostTarget) : (s.setTarget t).windows = s.windows := rfl
@[simp] theorem State.setTarget_reads (s : State) (t : HostTarget) : (s.setTarget t).reads = s.reads := rfl
@[simp] theorem State.setTarget_requests (s : State) (t : HostTarget) : (s.setTarget t).requests = s.requests := rfl
@[simp] theorem State.setTarget_events (s : State) (t : HostTarget) : (s.setTarget t).events = s.events := rfl
@[simp] theorem State.setTarget_resetAsserted (s : State) (t : HostTarget) : (s.setTarget t).resetAsserted = s.resetAsserted := rfl
@[simp] theorem State.setTarget_chipResetDue (s : State) (t : HostTarget) : (s.setTarget t).chipResetDue = s.chipResetDue := rfl
@[simp] theorem State.setTarget_pins (s : State) (t : HostTarget) : (s.setTarget t).pins = s.pins := rfl
@[simp] theorem State.setTarget_now (s : State) (t : HostTarget) : (s.setTarget t).now = s.now := rfl
@[simp] theorem State.setTarget_answer (s : State) (t : HostTarget) : (s.setTarget t).answer = s.answer := rfl
@[simp] theorem State.setTarget_pending (s : State) (t : HostTarget) : (s.setTarget t).pending = s.pending := rfl
@[simp] theorem State.setTarget_port (s : State) (t : HostTarget) (i : PortId) : (s.setTarget t).port i = s.port i := rfl
@[simp] theorem State.setTarget_window (s : State) (t : HostTarget) (i : EntryId) : (s.setTarget t).window i = s.window i := rfl
@[simp] theorem State.setTarget_readSlot (s : State) (t : HostTarget) (i : SlotId) : (s.setTarget t).readSlot i = s.readSlot i := rfl
@[simp] theorem State.setTarget_request (s : State) (t : HostTarget) (i : SlotId) : (s.setTarget t).request i = s.request i := rfl

/-! ### `pass` -/

@[simp] theorem State.pass_ports (s : State) (a : HeldAccess) : (s.pass a).ports = s.ports := rfl
@[simp] theorem State.pass_windows (s : State) (a : HeldAccess) : (s.pass a).windows = s.windows := rfl
@[simp] theorem State.pass_reads (s : State) (a : HeldAccess) : (s.pass a).reads = s.reads := rfl
@[simp] theorem State.pass_requests (s : State) (a : HeldAccess) : (s.pass a).requests = s.requests := rfl
@[simp] theorem State.pass_events (s : State) (a : HeldAccess) : (s.pass a).events = s.events := rfl
@[simp] theorem State.pass_resetAsserted (s : State) (a : HeldAccess) : (s.pass a).resetAsserted = s.resetAsserted := rfl
@[simp] theorem State.pass_chipResetDue (s : State) (a : HeldAccess) : (s.pass a).chipResetDue = s.chipResetDue := rfl
@[simp] theorem State.pass_pins (s : State) (a : HeldAccess) : (s.pass a).pins = s.pins := rfl
@[simp] theorem State.pass_now (s : State) (a : HeldAccess) : (s.pass a).now = s.now := rfl
@[simp] theorem State.pass_pending (s : State) (a : HeldAccess) : (s.pass a).pending = s.pending := rfl
@[simp] theorem State.pass_port (s : State) (a : HeldAccess) (i : PortId) : (s.pass a).port i = s.port i := rfl
@[simp] theorem State.pass_window (s : State) (a : HeldAccess) (i : EntryId) : (s.pass a).window i = s.window i := rfl
@[simp] theorem State.pass_readSlot (s : State) (a : HeldAccess) (i : SlotId) : (s.pass a).readSlot i = s.readSlot i := rfl
@[simp] theorem State.pass_request (s : State) (a : HeldAccess) (i : SlotId) : (s.pass a).request i = s.request i := rfl

/-! ### `withAnswer` -/

@[simp] theorem State.withAnswer_ports (s : State) (a : Answer) : (s.withAnswer a).ports = s.ports := rfl
@[simp] theorem State.withAnswer_windows (s : State) (a : Answer) : (s.withAnswer a).windows = s.windows := rfl
@[simp] theorem State.withAnswer_reads (s : State) (a : Answer) : (s.withAnswer a).reads = s.reads := rfl
@[simp] theorem State.withAnswer_requests (s : State) (a : Answer) : (s.withAnswer a).requests = s.requests := rfl
@[simp] theorem State.withAnswer_events (s : State) (a : Answer) : (s.withAnswer a).events = s.events := rfl
@[simp] theorem State.withAnswer_target (s : State) (a : Answer) : (s.withAnswer a).target = s.target := rfl
@[simp] theorem State.withAnswer_resetAsserted (s : State) (a : Answer) : (s.withAnswer a).resetAsserted = s.resetAsserted := rfl
@[simp] theorem State.withAnswer_chipResetDue (s : State) (a : Answer) : (s.withAnswer a).chipResetDue = s.chipResetDue := rfl
@[simp] theorem State.withAnswer_pins (s : State) (a : Answer) : (s.withAnswer a).pins = s.pins := rfl
@[simp] theorem State.withAnswer_now (s : State) (a : Answer) : (s.withAnswer a).now = s.now := rfl
@[simp] theorem State.withAnswer_pending (s : State) (a : Answer) : (s.withAnswer a).pending = s.pending := rfl
@[simp] theorem State.withAnswer_port (s : State) (a : Answer) (i : PortId) : (s.withAnswer a).port i = s.port i := rfl
@[simp] theorem State.withAnswer_window (s : State) (a : Answer) (i : EntryId) : (s.withAnswer a).window i = s.window i := rfl
@[simp] theorem State.withAnswer_readSlot (s : State) (a : Answer) (i : SlotId) : (s.withAnswer a).readSlot i = s.readSlot i := rfl
@[simp] theorem State.withAnswer_request (s : State) (a : Answer) (i : SlotId) : (s.withAnswer a).request i = s.request i := rfl

/-! ### `offer` -/

@[simp] theorem State.offer_ports (s : State) (o : Offer) : (s.offer o).ports = s.ports := rfl
@[simp] theorem State.offer_windows (s : State) (o : Offer) : (s.offer o).windows = s.windows := rfl
@[simp] theorem State.offer_reads (s : State) (o : Offer) : (s.offer o).reads = s.reads := rfl
@[simp] theorem State.offer_requests (s : State) (o : Offer) : (s.offer o).requests = s.requests := rfl
@[simp] theorem State.offer_target (s : State) (o : Offer) : (s.offer o).target = s.target := rfl
@[simp] theorem State.offer_resetAsserted (s : State) (o : Offer) : (s.offer o).resetAsserted = s.resetAsserted := rfl
@[simp] theorem State.offer_chipResetDue (s : State) (o : Offer) : (s.offer o).chipResetDue = s.chipResetDue := rfl
@[simp] theorem State.offer_pins (s : State) (o : Offer) : (s.offer o).pins = s.pins := rfl
@[simp] theorem State.offer_now (s : State) (o : Offer) : (s.offer o).now = s.now := rfl
@[simp] theorem State.offer_answer (s : State) (o : Offer) : (s.offer o).answer = s.answer := rfl
@[simp] theorem State.offer_pending (s : State) (o : Offer) : (s.offer o).pending = s.pending := rfl
@[simp] theorem State.offer_port (s : State) (o : Offer) (i : PortId) : (s.offer o).port i = s.port i := rfl
@[simp] theorem State.offer_window (s : State) (o : Offer) (i : EntryId) : (s.offer o).window i = s.window i := rfl
@[simp] theorem State.offer_readSlot (s : State) (o : Offer) (i : SlotId) : (s.offer o).readSlot i = s.readSlot i := rfl
@[simp] theorem State.offer_request (s : State) (o : Offer) (i : SlotId) : (s.offer o).request i = s.request i := rfl

/-! ### `arbitrate` -/

@[simp] theorem State.arbitrate_windows (s : State) (p : PortId) : (s.arbitrate p).windows = s.windows := rfl
@[simp] theorem State.arbitrate_reads (s : State) (p : PortId) : (s.arbitrate p).reads = s.reads := rfl
@[simp] theorem State.arbitrate_requests (s : State) (p : PortId) : (s.arbitrate p).requests = s.requests := rfl
@[simp] theorem State.arbitrate_events (s : State) (p : PortId) : (s.arbitrate p).events = s.events := rfl
@[simp] theorem State.arbitrate_target (s : State) (p : PortId) : (s.arbitrate p).target = s.target := rfl
@[simp] theorem State.arbitrate_resetAsserted (s : State) (p : PortId) : (s.arbitrate p).resetAsserted = s.resetAsserted := rfl
@[simp] theorem State.arbitrate_chipResetDue (s : State) (p : PortId) : (s.arbitrate p).chipResetDue = s.chipResetDue := rfl
@[simp] theorem State.arbitrate_pins (s : State) (p : PortId) : (s.arbitrate p).pins = s.pins := rfl
@[simp] theorem State.arbitrate_now (s : State) (p : PortId) : (s.arbitrate p).now = s.now := rfl
@[simp] theorem State.arbitrate_answer (s : State) (p : PortId) : (s.arbitrate p).answer = s.answer := rfl
@[simp] theorem State.arbitrate_pending (s : State) (p : PortId) : (s.arbitrate p).pending = s.pending := rfl
@[simp] theorem State.arbitrate_window (s : State) (p : PortId) (i : EntryId) : (s.arbitrate p).window i = s.window i := rfl
@[simp] theorem State.arbitrate_readSlot (s : State) (p : PortId) (i : SlotId) : (s.arbitrate p).readSlot i = s.readSlot i := rfl
@[simp] theorem State.arbitrate_request (s : State) (p : PortId) (i : SlotId) : (s.arbitrate p).request i = s.request i := rfl

end Sys2Proof.Machine
end

