-- ==== Sys2Proof/Laws/Frames.lean ====
section
/-! SUPPORT. What the shared operations on one port leave alone: everything outside the ports, the slots and the event queue
(`State.shell`), and every other port. One lemma per operation. -/

namespace Sys2Proof.Machine

/-- The parts of the state that no operation on a port's queue, link or records reaches. -/
def State.shell (s : State) :
    Vector WindowEntry 12 × HostTarget × Bool × Bool × BitVec 4 × Nat × Answer × List Instr :=
  (s.windows, s.target, s.resetAsserted, s.chipResetDue, s.pins, s.now, s.answer, s.pending)

theorem State.shell_now {s t : State} (h : t.shell = s.shell) : t.now = s.now := by
  simp only [State.shell, Prod.mk.injEq] at h; exact h.2.2.2.2.2.1

theorem State.shell_windows {s t : State} (h : t.shell = s.shell) : t.windows = s.windows := by
  simp only [State.shell, Prod.mk.injEq] at h; exact h.1

theorem State.shell_target {s t : State} (h : t.shell = s.shell) : t.target = s.target := by
  simp only [State.shell, Prod.mk.injEq] at h; exact h.2.1

theorem State.shell_pending {s t : State} (h : t.shell = s.shell) : t.pending = s.pending := by
  simp only [State.shell, Prod.mk.injEq] at h; exact h.2.2.2.2.2.2.2

/-- `t` differs from `s` in port `p`, the slots and the event queue at most. -/
structure State.Within (p : PortId) (s t : State) : Prop where
  shell : t.shell = s.shell
  others : ∀ r, r ≠ p → t.port r = s.port r

theorem State.Within.refl (p : PortId) (s : State) : State.Within p s s := ⟨rfl, fun _ _ => rfl⟩

theorem State.Within.trans {p : PortId} {s t u : State} (h : State.Within p s t) (k : State.Within p t u) :
    State.Within p s u :=
  ⟨k.shell.trans h.shell, fun r hr => (k.others r hr).trans (h.others r hr)⟩

theorem State.within_setPort (s : State) (p : PortId) (q : Port) : State.Within p s (s.setPort p q) :=
  ⟨rfl, fun _ hr => State.setPort_port_ne s q hr⟩

theorem State.within_modPort (s : State) (p : PortId) (f : Port → Port) : State.Within p s (s.modPort p f) :=
  State.within_setPort s p _

theorem State.within_arbitrate (s : State) (p : PortId) : State.Within p s (s.arbitrate p) := State.within_modPort s p _

theorem State.within_offer (s : State) (p : PortId) (o : Offer) : State.Within p s (s.offer o) := ⟨rfl, fun _ _ => rfl⟩

theorem State.within_setReads (s : State) (p : PortId) (d : DelayedReads) : State.Within p s (s.setReads d) :=
  ⟨rfl, fun _ _ => rfl⟩

theorem State.within_setReadSlot (s : State) (p : PortId) (n : SlotId) (x : Option ReadSlot) :
    State.Within p s (s.setReadSlot n x) := ⟨rfl, fun _ _ => rfl⟩

theorem State.within_setRequest (s : State) (p : PortId) (n : SlotId) (q : RequestSlot) :
    State.Within p s (s.setRequest n q) := ⟨rfl, fun _ _ => rfl⟩

theorem State.within_completeRequest (s : State) (p : PortId) (n : SlotId) (c : Cause) (b : Vector Byte 16) :
    State.Within p s (s.completeRequest n c b) := by
  unfold State.completeRequest
  dsimp only
  split <;> exact ⟨rfl, fun _ _ => rfl⟩

theorem State.within_settleRequest (s : State) (p : PortId) (n : SlotId) (o : Operation) (l : Leaving) :
    State.Within p s (s.settleRequest n o l) := by
  unfold State.settleRequest
  dsimp only
  split
  · split <;> exact s.within_completeRequest p n _ _
  · exact .refl p s

theorem State.within_settleRead (s : State) (p : PortId) (n : SlotId) (l : Leaving) : State.Within p s (s.settleRead n l) := by
  unfold State.settleRead
  split
  · split
    · exact s.within_setReadSlot p n _
    · exact .refl p s
  · exact .refl p s

theorem State.within_settlePosted (s : State) (p : PortId) (r : Record) (l : Leaving) :
    State.Within p s (s.settlePosted p r l) := by
  unfold State.settlePosted
  cases l
  · exact s.within_modPort p _
  · exact (s.within_modPort p _).trans (State.within_offer _ p _)
  · exact (s.within_modPort p _).trans (State.within_offer _ p _)
  · exact s.within_modPort p _

theorem State.within_settle (s : State) (p : PortId) (r : Record) (l : Leaving) : State.Within p s (s.settle p r l) := by
  unfold State.settle
  split
  · exact s.within_settlePosted p r l
  · exact s.within_settleRead p _ l
  · exact s.within_settleRequest p _ _ l

theorem State.within_settleAll (p : PortId) (c : Cause) (rs : List Record) (s : State) :
    State.Within p s (s.settleAll p c rs) := by
  induction rs generalizing s with
  | nil => exact .refl p s
  | cons r rs ih => exact (s.within_settle p r _).trans (ih _)

theorem State.within_hold (s : State) (p : PortId) : State.Within p s (s.hold p) :=
  (s.within_modPort p _).trans (State.within_settleAll p _ _ _)

theorem State.within_loseLink (s : State) (p : PortId) (c : Cause) : State.Within p s (s.loseLink p c) :=
  ((s.within_modPort p _).trans (State.within_offer _ p _)).trans (State.within_hold _ p)

theorem State.within_exhaust (s : State) (p : PortId) (w : Sent) (c : Cause) : State.Within p s (s.exhaust p w c) :=
  ((s.within_modPort p _).trans (State.within_settle _ p _ _)).trans (State.within_loseLink _ p c)

theorem State.within_retryOldest (s : State) (p : PortId) : State.Within p s (s.retryOldest p) := by
  unfold State.retryOldest
  dsimp only
  split
  · exact .refl p s
  · split
    · exact (s.within_modPort p _).trans (State.within_arbitrate _ p)
    · exact s.within_exhaust p _ _

theorem State.within_busyRefusal (s : State) (p : PortId) : State.Within p s (s.busyRefusal p) := by
  unfold State.busyRefusal
  dsimp only
  split
  · exact .refl p s
  · split
    · exact s.within_modPort p _
    · exact s.within_exhaust p _ _

theorem State.within_complete (s : State) (p : PortId) (w : Sent) (l : Leaving) : State.Within p s (s.complete p w l) := by
  unfold State.complete
  dsimp only
  refine .trans ?_ (State.within_arbitrate _ p)
  refine .trans ?_ (State.within_modPort _ p _)
  have h := (s.within_modPort p Port.dropOldest).trans (State.within_settle _ p w.record l)
  split
  · exact h.trans (State.within_hold _ p)
  · exact h

theorem State.within_stale (s : State) (p : PortId) : State.Within p s (s.stale p) := s.within_modPort p _

theorem State.within_outOfOrder (s : State) (p : PortId) : State.Within p s (s.outOfOrder p) := by
  unfold State.outOfOrder
  split
  · exact (s.within_stale p).trans (State.within_retryOldest _ p)
  · exact s.within_stale p

theorem State.within_respond (s : State) (p : PortId) (r : Seq) (act : Sent → State)
    (h : ∀ w, State.Within p s (act w)) : State.Within p s (s.respond p r act) := by
  unfold State.respond
  dsimp only
  split
  · exact s.within_stale p
  · split
    · exact s.within_stale p
    · split
      · exact h _
      · split
        · exact s.within_stale p
        · split
          · exact s.within_stale p
          · exact s.within_outOfOrder p

theorem State.within_ackResponse (s : State) (p : PortId) (r : Seq) : State.Within p s (s.ackResponse p r) := by
  refine s.within_respond p r _ fun w => ?_
  split
  · exact s.within_complete p w _
  · exact s.within_loseLink p _

theorem State.within_dataResponse (s : State) (p : PortId) (r : Seq) (d : List Byte) :
    State.Within p s (s.dataResponse p r d) := by
  refine s.within_respond p r _ fun w => ?_
  split
  · split
    · exact s.within_complete p w _
    · exact s.within_loseLink p _
  · exact s.within_loseLink p _

theorem State.within_sequenceRefusal (s : State) (p : PortId) (e : Seq) : State.Within p s (s.sequenceRefusal p e) := by
  unfold State.sequenceRefusal
  dsimp only
  split
  · exact s.within_stale p
  · split
    · exact s.within_stale p
    · split
      · exact s.within_retryOldest p
      · exact s.within_loseLink p _

theorem State.within_rejectResponse (s : State) (p : PortId) (r : Seq) (c : RejectCause) (e : Seq) :
    State.Within p s (s.rejectResponse p r c e) := by
  unfold State.rejectResponse
  cases c
  · exact s.within_sequenceRefusal p e
  · refine s.within_respond p r _ fun w => ?_
    split
    · exact s.within_stale p
    · exact s.within_busyRefusal p
  · exact s.within_respond p r _ fun w => s.within_complete p w _
  · exact s.within_respond p r _ fun w => s.within_complete p w _

theorem State.within_identFrame (s : State) (p : PortId) (r : Seq) (c : BitVec 16) (v w : Byte) :
    State.Within p s (s.identFrame p r c v w) := by
  unfold State.identFrame
  dsimp only
  split
  · refine .trans ?_ (State.within_arbitrate _ p)
    refine .trans ?_ (State.within_offer _ p _)
    refine .trans ?_ (State.within_modPort _ p _)
    split
    · exact s.within_offer p _
    · exact .refl p s
  · exact s.within_stale p

theorem State.within_takeAttention (s : State) (p : PortId) (flag : Bool) : State.Within p s (s.takeAttention p flag) := by
  unfold State.takeAttention
  split
  · exact (s.within_modPort p _).trans (State.within_offer _ p _)
  · exact .refl p s

theorem State.within_deliver (s : State) (p : PortId) (f : StationFrame) : State.Within p s (s.deliver p f) := by
  unfold State.deliver
  dsimp only
  refine .trans ?_ (State.within_takeAttention _ p _)
  split
  · exact s.within_ackResponse p _
  · exact s.within_dataResponse p _ _
  · exact s.within_rejectResponse p _ _ _
  · exact s.within_identFrame p _ _ _ _

theorem State.within_reception (s : State) (p : PortId) (r : Reception) : State.Within p s (s.reception p r) := by
  cases r
  · exact s.within_modPort p _
  · exact s.within_modPort p _
  · exact s.within_deliver p _

theorem State.within_lineByte (s : State) (p : PortId) (b : Byte) : State.Within p s (s.lineByte p b) := by
  unfold State.lineByte
  dsimp only
  split
  · split
    · exact s.within_modPort p _
    · exact (s.within_modPort p _).trans (State.within_reception _ p _)
  · exact .refl p s

theorem State.within_lineBytes (p : PortId) (bs : List Byte) (s : State) : State.Within p s (s.lineBytes p bs) := by
  induction bs generalizing s with
  | nil => exact .refl p s
  | cons b bs ih => exact (s.within_lineByte p b).trans (ih _)

theorem State.within_stationFrame (s : State) (p : PortId) (f : StationFrame) : State.Within p s (s.stationFrame p f) := by
  unfold State.stationFrame
  dsimp only
  split
  · exact (s.within_modPort p _).trans (State.within_reception _ p _)
  · exact .refl p s

theorem State.within_offerFlushed (s : State) (p : PortId) (rs : List Record) : State.Within p s (s.offerFlushed p rs) := by
  unfold State.offerFlushed
  split
  · exact .refl p s
  · exact s.within_offer p _

theorem State.within_invalidate (s : State) (p : PortId) (r : Record) : State.Within p s (s.invalidate p r) :=
  s.within_setReads p _

theorem State.within_loseCarrier (s : State) (p : PortId) : State.Within p s (s.loseCarrier p) := by
  unfold State.loseCarrier
  dsimp only
  split
  · split
    · exact (s.within_modPort p _).trans (State.within_loseLink _ p _)
    · exact s.within_modPort p _
  · exact .refl p s

theorem State.within_regainCarrier (s : State) (p : PortId) : State.Within p s (s.regainCarrier p) := by
  unfold State.regainCarrier
  split
  · exact .refl p s
  · exact s.within_modPort p _

theorem State.within_endTransmission (s : State) (p : PortId) : State.Within p s (s.endTransmission p) := by
  unfold State.endTransmission
  split
  · exact .refl p s
  · exact (s.within_modPort p _).trans (State.within_arbitrate _ p)

theorem State.within_expireResponseTimer (s : State) (p : PortId) : State.Within p s (s.expireResponseTimer p) := by
  unfold State.expireResponseTimer
  split
  · exact .refl p s
  · exact (s.within_modPort p _).trans (State.within_retryOldest _ p)

theorem State.within_endBackoff (s : State) (p : PortId) : State.Within p s (s.endBackoff p) := by
  unfold State.endBackoff
  split
  · exact .refl p s
  · exact (s.within_modPort p _).trans (State.within_arbitrate _ p)

theorem State.within_expireResponseWait (s : State) (p : PortId) : State.Within p s (s.expireResponseWait p) := by
  unfold State.expireResponseWait
  split
  · exact s.within_modPort p _
  · exact .refl p s

theorem State.within_expireProbeInterval (s : State) (p : PortId) : State.Within p s (s.expireProbeInterval p) := by
  unfold State.expireProbeInterval
  split
  · exact (s.within_modPort p _).trans (State.within_arbitrate _ p)
  · exact .refl p s

theorem State.within_expireReprobeInterval (s : State) (p : PortId) : State.Within p s (s.expireReprobeInterval p) := by
  unfold State.expireReprobeInterval
  split
  · exact (s.within_modPort p _).trans (State.within_arbitrate _ p)
  · exact .refl p s

theorem State.within_portResult (s : State) (p : PortId) (r : CommandResult) : State.Within p s (s.portResult p r) :=
  s.within_modPort p _

theorem State.within_enablePort (s : State) (p : PortId) : State.Within p s (s.enablePort p) := by
  unfold State.enablePort
  split
  · exact ((s.within_modPort p _).trans (State.within_portResult _ p _)).trans (State.within_arbitrate _ p)
  · exact s.within_portResult p _

theorem State.within_disablePort (s : State) (p : PortId) : State.Within p s (s.disablePort p) := by
  unfold State.disablePort
  split
  · exact s.within_portResult p _
  · exact ((s.within_modPort p _).trans (State.within_settleAll p _ _ _)).trans (State.within_offerFlushed _ p _)

theorem State.within_resumePort (s : State) (p : PortId) : State.Within p s (s.resumePort p) := by
  unfold State.resumePort
  split
  · exact (s.within_modPort p _).trans (State.within_arbitrate _ p)
  · exact s.within_portResult p _

theorem State.within_flushPort (s : State) (p : PortId) : State.Within p s (s.flushPort p) := by
  unfold State.flushPort
  split
  · exact s.within_portResult p _
  · exact ((s.within_modPort p _).trans (State.within_settleAll p _ _ _)).trans (State.within_offerFlushed _ p _)

theorem State.within_restartPort (s : State) (p : PortId) : State.Within p s (s.restartPort p) := by
  unfold State.restartPort
  split
  · exact (s.within_modPort p _).trans (State.within_arbitrate _ p)
  · exact s.within_portResult p _

theorem State.within_ackAttention (s : State) (p : PortId) : State.Within p s (s.ackAttention p) := by
  unfold State.ackAttention
  split
  · exact s.within_portResult p _
  · exact s.within_modPort p _

theorem State.within_portCommand (s : State) (p : PortId) (code : BitVec 4) : State.Within p s (s.portCommand p code) := by
  unfold State.portCommand
  repeat' split
  · exact s.within_enablePort p
  · exact s.within_disablePort p
  · exact s.within_resumePort p
  · exact s.within_flushPort p
  · exact s.within_restartPort p
  · exact s.within_ackAttention p
  · exact s.within_portResult p _

end Sys2Proof.Machine
end

