-- ==== Sys2Proof/Laws/Outcomes.lean ====
section
/-! SUPPORT. What it does to give a record's producer its outcome, once and for a whole list of removed records, and what the
hold and the loss of a link make of the port, the slots and the event queue. -/

namespace Sys2Proof.Machine

/-! ## One record -/

theorem State.completeRequest_request (s : State) (n m : SlotId) (c : Cause) (b : Vector Byte 16) :
    (s.completeRequest n c b).request m =
      if m = n then { s.request n with state := .complete c, buffer := b } else s.request m := by
  unfold State.completeRequest
  dsimp only
  split <;> simp [State.setRequest_request]

@[simp] theorem State.completeRequest_ports (s : State) (n : SlotId) (c : Cause) (b : Vector Byte 16) :
    (s.completeRequest n c b).ports = s.ports := by
  unfold State.completeRequest; dsimp only; split <;> rfl

@[simp] theorem State.completeRequest_reads (s : State) (n : SlotId) (c : Cause) (b : Vector Byte 16) :
    (s.completeRequest n c b).reads = s.reads := by
  unfold State.completeRequest; dsimp only; split <;> rfl

theorem State.completeRequest_events (s : State) (n : SlotId) (c : Cause) (b : Vector Byte 16) :
    (s.completeRequest n c b).events =
      if (s.request n).notify then s.events.offer s.now (requestDone (s.request n) n c) else s.events := by
  unfold State.completeRequest
  dsimp only
  split <;> rfl

/-- An outcome reaches one port only for a POSTED record, and there only the posted-write counters. -/
theorem State.settle_port (s : State) (p : PortId) (r : Record) (l : Leaving) (x : PortId) :
    (s.settle p r l).port x =
      if r.source = .posted ∧ x = p then (s.port p).countPosted l else s.port x := by
  unfold State.settle
  cases h : r.source with
  | posted =>
    simp only [true_and]
    unfold State.settlePosted
    cases l <;> simp [State.modPort_port]
  | read n =>
    simp only [reduceCtorEq, false_and, if_false]
    unfold State.settleRead
    split
    · split <;> rfl
    · rfl
  | request n =>
    simp only [reduceCtorEq, false_and, if_false]
    unfold State.settleRequest
    dsimp only
    split
    · cases l <;> simp [State.port]
    · rfl

/-- An outcome reaches the delayed-read slots only for a READ record, and there only its own PENDING slot. -/
theorem State.settle_readSlot (s : State) (p : PortId) (r : Record) (l : Leaving) (n : SlotId) :
    (s.settle p r l).readSlot n =
      if r.source = .read n then
        (s.readSlot n).map fun slot =>
          if slot.state = .pending then { slot with state := ReadState.ofLeaving l (s.reads.deadline s.now) } else slot
      else s.readSlot n := by
  unfold State.settle
  cases h : r.source with
  | posted =>
    simp only [reduceCtorEq, if_false]
    unfold State.settlePosted
    cases l <;> rfl
  | read m =>
    simp only [Source.read.injEq]
    unfold State.settleRead
    by_cases hm : m = n
    · subst hm
      simp only [if_true]
      cases hs : s.readSlot m with
      | none => simp [hs]
      | some slot =>
        simp only [Option.map_some]
        split
        · simp [State.setReadSlot_readSlot]
        · simpa using hs
    · simp only [hm, if_false]
      cases hs : s.readSlot m with
      | none => rfl
      | some slot =>
        dsimp only
        split
        · simp [State.setReadSlot_readSlot, Ne.symm hm]
        · rfl
  | request m =>
    simp only [reduceCtorEq, if_false]
    unfold State.settleRequest
    dsimp only
    split
    · cases l <;> simp [State.readSlot]
    · rfl

/-- The state a request slot takes from an outcome, and its buffer. -/
def RequestSlot.given (q : RequestSlot) (o : Operation) (l : Leaving) : RequestSlot :=
  match l with
  | .ok data => { q with state := .complete .ok, buffer := if o = .read then bufferOf data else q.buffer }
  | .refused c _ => { q with state := .complete c }
  | .failed c _ => { q with state := .complete c }
  | .removed c => { q with state := .complete c }

/-- The result an outcome gives a request slot. -/
def Leaving.result : Leaving → Cause
  | .ok _ => .ok
  | .refused c _ => c
  | .failed c _ => c
  | .removed c => c

theorem State.settleRequest_eq (s : State) (n : SlotId) (o : Operation) (l : Leaving) :
    s.settleRequest n o l = if (s.request n).state = .submitted then
      s.completeRequest n l.result ((s.request n).given o l).buffer else s := by
  unfold State.settleRequest
  dsimp only
  split
  · cases l <;> rfl
  · rfl

theorem RequestSlot.given_eq (q : RequestSlot) (o : Operation) (l : Leaving) :
    q.given o l = { q with state := .complete l.result, buffer := (q.given o l).buffer } := by
  cases l <;> rfl

/-- An outcome reaches the request slots only for a REQUEST record, and there only its own SUBMITTED slot. -/
theorem State.settle_request (s : State) (p : PortId) (r : Record) (l : Leaving) (n : SlotId) :
    (s.settle p r l).request n =
      if r.source = .request n ∧ (s.request n).state = .submitted then (s.request n).given r.operation l
      else s.request n := by
  unfold State.settle
  cases h : r.source with
  | posted =>
    simp only [reduceCtorEq, false_and, if_false]
    unfold State.settlePosted
    cases l <;> rfl
  | read m =>
    simp only [reduceCtorEq, false_and, if_false]
    unfold State.settleRead
    split
    · split <;> rfl
    · rfl
  | request m =>
    simp only [Source.request.injEq, State.settleRequest_eq]
    by_cases hm : m = n
    · subst hm
      simp only [true_and]
      split
      · rw [State.completeRequest_request, if_pos rfl, ← RequestSlot.given_eq]
      · rfl
    · simp only [hm, false_and, if_false]
      split
      · rw [State.completeRequest_request, if_neg (Ne.symm hm)]
      · rfl

/-- The record an outcome offers to the event queue, if any (R62, R143). -/
def State.settleOffers (s : State) (p : PortId) (r : Record) (l : Leaving) : List Offer :=
  match r.source with
  | .posted =>
    match l with
    | .ok _ => []
    | .refused c q => [writeFault p r c q]
    | .failed c q => [writeFault p r c q]
    | .removed _ => []
  | .read _ => []
  | .request n =>
    if (s.request n).state = .submitted ∧ (s.request n).notify = true then [requestDone (s.request n) n l.result] else []

theorem State.settle_events (s : State) (p : PortId) (r : Record) (l : Leaving) :
    (s.settle p r l).events = s.events.offerAll s.now (s.settleOffers p r l) := by
  unfold State.settle State.settleOffers EventQueue.offerAll
  cases h : r.source with
  | posted => cases l <;> rfl
  | read m =>
    dsimp only [List.foldl]
    unfold State.settleRead
    split
    · split <;> rfl
    · rfl
  | request m =>
    simp only [State.settleRequest_eq]
    by_cases hs : (s.request m).state = .submitted
    · rw [if_pos hs, State.completeRequest_events]
      by_cases hn : (s.request m).notify = true
      · simp [hs, hn]
      · simp [hs, hn]
    · simp [hs]

/-- The counters and the setting of the DRU are no part of any outcome. -/
theorem State.settle_reads (s : State) (p : PortId) (r : Record) (l : Leaving) :
    (s.settle p r l).reads.refusals = s.reads.refusals ∧ (s.settle p r l).reads.invalidations = s.reads.invalidations ∧
      (s.settle p r l).reads.discardSteps = s.reads.discardSteps := by
  unfold State.settle
  split
  · unfold State.settlePosted
    cases l <;> exact ⟨rfl, rfl, rfl⟩
  · unfold State.settleRead
    split
    · split <;> exact ⟨rfl, rfl, rfl⟩
    · exact ⟨rfl, rfl, rfl⟩
  · rw [State.settleRequest_eq]
    split <;> simp

theorem State.settle_now (s : State) (p : PortId) (r : Record) (l : Leaving) : (s.settle p r l).now = s.now :=
  State.shell_now (s.within_settle p r l).shell

/-! ## A list of removed records -/

theorem State.settleAll_cons (s : State) (p : PortId) (c : Cause) (r : Record) (rs : List Record) :
    s.settleAll p c (r :: rs) = (s.settle p r (.removed c)).settleAll p c rs := rfl

theorem State.settleAll_port (p : PortId) (c : Cause) (rs : List Record) (s : State) :
    (s.settleAll p c rs).port p =
      { s.port p with
        postedDrop := (s.port p).postedDrop + BitVec.ofNat 32 (rs.filter (fun r => r.source == .posted)).length } := by
  induction rs generalizing s with
  | nil => simp [State.settleAll]
  | cons r rs ih =>
    rw [State.settleAll_cons, ih, State.settle_port]
    by_cases h : r.source = .posted
    · simp only [h, and_self, if_true, Port.countPosted, List.filter_cons, beq_self_eq_true, List.length_cons]
      congr 1
      rw [BitVec.add_assoc]
      congr 1
      apply BitVec.eq_of_toNat_eq
      simp [Nat.add_comm]
    · have hb : (r.source == Source.posted) = false := by simpa using h
      simp [h, hb]

theorem State.settleAll_reads (p : PortId) (c : Cause) (rs : List Record) (s : State) :
    (s.settleAll p c rs).reads.refusals = s.reads.refusals ∧
      (s.settleAll p c rs).reads.invalidations = s.reads.invalidations ∧
      (s.settleAll p c rs).reads.discardSteps = s.reads.discardSteps := by
  induction rs generalizing s with
  | nil => exact ⟨rfl, rfl, rfl⟩
  | cons r rs ih =>
    obtain ⟨h1, h2, h3⟩ := ih (s.settle p r (.removed c))
    obtain ⟨k1, k2, k3⟩ := s.settle_reads p r (.removed c)
    exact ⟨h1.trans k1, h2.trans k2, h3.trans k3⟩

theorem State.settleAll_readSlot (p : PortId) (c : Cause) (rs : List Record) (s : State) (n : SlotId) :
    (s.settleAll p c rs).readSlot n = s.slotAfterRemoval c rs n := by
  induction rs generalizing s with
  | nil =>
    unfold State.slotAfterRemoval
    simp only [State.settleAll, List.foldl]
    cases s.readSlot n <;> simp
  | cons r rs ih =>
    rw [State.settleAll_cons, ih]
    unfold State.slotAfterRemoval
    rw [State.settle_readSlot]
    have hd : (s.settle p r (.removed c)).reads.deadline (s.settle p r (.removed c)).now = s.reads.deadline s.now := by
      unfold DelayedReads.deadline
      rw [State.settle_now, (s.settle_reads p r (.removed c)).2.2]
    rw [hd]
    cases hs : s.readSlot n with
    | none => by_cases hr : r.source = .read n <;> simp [hr]
    | some slot =>
      by_cases hr : r.source = .read n
      · by_cases hp : slot.state = .pending
        · simp [hr, hp, ReadState.ofLeaving]
        · simp [hr, hp]
      · have hb : (r.source == Source.read n) = false := by simpa using hr
        simp [hr, hb]

theorem State.settleAll_request (p : PortId) (c : Cause) (rs : List Record) (s : State) (n : SlotId) :
    (s.settleAll p c rs).request n = s.requestAfterRemoval c rs n := by
  induction rs generalizing s with
  | nil => simp [State.settleAll, State.requestAfterRemoval]
  | cons r rs ih =>
    rw [State.settleAll_cons, ih]
    unfold State.requestAfterRemoval
    rw [State.settle_request]
    by_cases hr : r.source = .request n
    · by_cases hp : (s.request n).state = .submitted
      · simp [hr, hp, RequestSlot.given]
      · simp [hr, hp]
    · have hb : (r.source == Source.request n) = false := by simpa using hr
      simp [hr, hb]

theorem EventQueue.offerAll_append (e : EventQueue) (now : Nat) (a b : List Offer) :
    e.offerAll now (a ++ b) = (e.offerAll now a).offerAll now b := List.foldl_append

/-- Removed records offer REQUEST_DONE alone, in their order, where no slot is named twice and every slot named is SUBMITTED. -/
theorem State.settleAll_events (p : PortId) (c : Cause) (rs : List Record) (s : State)
    (named : ∀ r ∈ rs, ∀ n, r.source = .request n → (s.request n).state = .submitted)
    (once : (rs.filter Record.isRequest).Pairwise (fun a b => a.source ≠ b.source)) :
    (s.settleAll p c rs).events = s.events.offerAll s.now (s.doneOffers c rs) := by
  induction rs generalizing s with
  | nil => rfl
  | cons r rs ih =>
    have hnow := State.settle_now s p r (.removed c)
    have hreq : ∀ r' ∈ rs, ∀ n, r'.source = .request n → (s.settle p r (.removed c)).request n = s.request n := by
      intro r' hr' n hn
      rw [State.settle_request]
      by_cases hr : r.source = .request n
      · have h1 : r.isRequest = true := by simp [Record.isRequest, hr]
        have h2 : r'.isRequest = true := by simp [Record.isRequest, hn]
        rw [List.filter_cons, if_pos h1, List.pairwise_cons] at once
        exact absurd (hr.trans hn.symm) (once.1 r' (List.mem_filter.2 ⟨hr', h2⟩))
      · simp [hr]
    rw [State.settleAll_cons, ih, hnow, State.settle_events, ← EventQueue.offerAll_append]
    · congr 1
      have hdone : (s.settle p r (.removed c)).doneOffers c rs = s.doneOffers c rs := by
        unfold State.doneOffers
        apply List.filterMap_congr
        intro r' hr'
        cases hsrc : r'.source with
        | posted => rfl
        | read n => rfl
        | request n => simp only [hreq r' hr' n hsrc]
      rw [hdone]
      unfold State.doneOffers State.settleOffers
      cases hsrc : r.source with
      | posted => simp [hsrc]
      | read n => simp [hsrc]
      | request n =>
        have hsub := named r (List.mem_cons_self ..) n hsrc
        by_cases hn : (s.request n).notify = true
        · simp [hsrc, hsub, hn, requestDone, Leaving.result]
        · simp [hsrc, hsub, hn]
    · intro r' hr' n hn
      rw [hreq r' hr' n hn]
      exact named r' (List.mem_cons_of_mem _ hr') n hn
    · rw [List.filter_cons] at once
      split at once
      · exact (List.pairwise_cons.1 once).2
      · exact once

/-! ## The hold -/

/-- The records the hold removal takes are READ records, which no event and no counter follows. -/
theorem Record.heldBack_eq (r : Record) : r.heldBack = (r.isRead && !r.reserved) := by
  unfold Record.heldBack Record.isRead Record.queued
  cases r.source <;> simp

theorem Record.heldBack_not_posted {r : Record} (h : r.heldBack = true) : (r.source == Source.posted) = false := by
  unfold Record.heldBack at h
  cases hs : r.source <;> simp_all

theorem Record.heldBack_not_request {r : Record} (h : r.heldBack = true) : r.isRequest = false := by
  unfold Record.heldBack at h
  unfold Record.isRequest
  cases hs : r.source <;> simp_all

theorem State.settleAll_held_events (p : PortId) (c : Cause) (rs : List Record) (s : State)
    (h : ∀ r ∈ rs, r.isRequest = false) :
    (s.settleAll p c rs).events = s.events ∧ (s.settleAll p c rs).requests = s.requests := by
  induction rs generalizing s with
  | nil => exact ⟨rfl, rfl⟩
  | cons r rs ih =>
    have hr := h r (List.mem_cons_self ..)
    have ih' := ih (s.settle p r (.removed c)) (fun r' hr' => h r' (List.mem_cons_of_mem _ hr'))
    rw [State.settleAll_cons, ih'.1, ih'.2]
    unfold Record.isRequest at hr
    unfold State.settle
    cases hs : r.source with
    | posted => exact ⟨rfl, rfl⟩
    | read n =>
      unfold State.settleRead
      dsimp only
      split
      · split <;> exact ⟨rfl, rfl⟩
      · exact ⟨rfl, rfl⟩
    | request n => simp [hs] at hr

/-- The hold makes the queue HELD, takes the QUEUED READ records, and fails their slots; nothing else. -/
theorem State.hold_spec (s : State) (p : PortId) :
    (s.hold p).port p = (s.port p).hold ∧ (s.hold p).events = s.events ∧ (s.hold p).requests = s.requests ∧
      (∀ n, (s.hold p).readSlot n = s.slotAfterRemoval .held ((s.port p).normal.filter Record.heldBack) n) ∧
      (s.hold p).reads.refusals = s.reads.refusals ∧ (s.hold p).reads.invalidations = s.reads.invalidations ∧
      (s.hold p).reads.discardSteps = s.reads.discardSteps := by
  have hq : ∀ r ∈ (s.port p).normal.filter Record.heldBack, r.isRequest = false :=
    fun r hr => Record.heldBack_not_request (List.mem_filter.1 hr).2
  have hp : ((s.port p).normal.filter Record.heldBack).filter (fun r => r.source == .posted) = [] := by
    apply List.filter_eq_nil_iff.2
    intro r hr
    simp [Record.heldBack_not_posted (List.mem_filter.1 hr).2]
  have he := (State.settleAll_held_events p .held _ (s.modPort p Port.hold) hq)
  have hr := State.settleAll_reads p .held ((s.port p).normal.filter Record.heldBack) (s.modPort p Port.hold)
  refine ⟨?_, he.1, he.2, fun n => ?_, hr⟩
  · unfold State.hold
    dsimp only
    rw [State.settleAll_port, hp]
    simp
  · unfold State.hold
    dsimp only
    rw [State.settleAll_readSlot]
    rfl

/-- The port as the loss of its link leaves it. -/
def Port.lost (q : Port) (cause : Cause) (now : Nat) : Port := ((q.returnWindow.clearSequencer).becomeLost cause now).hold

/-- The loss of a link: the port, the LINK_LOST record, and the slots of the READ records taken by the hold removal. -/
theorem State.loseLink_spec (s : State) (p : PortId) (cause : Cause) :
    (s.loseLink p cause).port p = (s.port p).lost cause s.now ∧
      (s.loseLink p cause).events =
        s.events.offer s.now ⟨.linkLost, p, cause, 0, .returned (s.port p).window.length⟩ ∧
      (s.loseLink p cause).requests = s.requests ∧
      (∀ n, (s.loseLink p cause).readSlot n =
        s.slotAfterRemoval .held ((s.port p).returnWindow.normal.filter Record.heldBack) n) ∧
      (s.loseLink p cause).reads.refusals = s.reads.refusals ∧
      (s.loseLink p cause).reads.invalidations = s.reads.invalidations ∧
      (s.loseLink p cause).reads.discardSteps = s.reads.discardSteps := by
  obtain ⟨h1, h2, h3, h4, h5⟩ := State.hold_spec ((s.modPort p fun q =>
    (q.returnWindow.clearSequencer).becomeLost cause s.now).offer
      ⟨.linkLost, p, cause, 0, .returned (s.port p).window.length⟩) p
  unfold State.loseLink
  dsimp only
  refine ⟨h1.trans ?_, h2.trans rfl, h3.trans rfl, fun n => (h4 n).trans ?_, h5⟩
  · simp [Port.lost]
  · simp only [State.offer_port, State.modPort_port_self]
    rfl

end Sys2Proof.Machine
end

