-- ==== Sys2Proof/Laws/Ops.lean ====
section
/-! SUPPORT. One lemma per shared operation that says once everything it can do, with its guards, so that no later proof
unfolds it: presentation and termination of an access, mirrored writes, admission, the arbiter, the sequencer's procedures, the
event queue, the invalidation check, the slots of the DRU, and the receiver. -/

namespace Sys2Proof.Machine

/-! ## Presentation -/

theorem State.present_of_ready {s : State} (h : s.Ready) {b : Bool} (hb : b = true) (act : State → State) :
    s.present b act = act s := by
  simp [State.present, h.released, h.busFree, h.noResetDue, hb]

theorem State.presentCommand_of_ready {s : State} (h : s.Ready) (act : State → State) :
    s.presentCommand act = (act s).withAnswer .ack := State.present_of_ready h rfl _

/-- An access is decided by its own rule when the HBT is ready for it, and else leaves an answer alone. -/
theorem State.present_cases (s : State) (b : Bool) (act : State → State) :
    (s.Ready ∧ b = true ∧ s.present b act = act s) ∨
      ∃ a, (a = .pass ∨ a = .notPresented ∨ a = .undecided) ∧ s.present b act = s.withAnswer a := by
  unfold State.present
  split
  · exact .inr ⟨_, .inl rfl, rfl⟩
  · rename_i h1
    split
    · exact .inr ⟨_, .inr (.inl rfl), rfl⟩
    · rename_i h2
      split
      · exact .inr ⟨_, .inr (.inl rfl), rfl⟩
      · rename_i h3
        split
        · exact .inr ⟨_, .inr (.inr rfl), rfl⟩
        · rename_i h4
          refine .inl ⟨⟨by simpa using h1, by simpa using h3, by simpa using h4⟩, by simpa using h2, rfl⟩

/-- Every command that presents a host access is decided through `State.present`, with the alignment of that access. -/
theorem exec_present {c : Instr} {addr bytes : Nat} (h : accessPresented c = some (addr, bytes)) (s : State) :
    ∃ act, exec c s = .next (s.present (aligned addr bytes) act) := by
  cases c <;> simp only [accessPresented, Option.some.injEq, Prod.mk.injEq, reduceCtorEq] at h <;> obtain ⟨rfl, rfl⟩ := h <;>
    exact ⟨_, rfl⟩

/-! ## Mirrored writes and the termination of the access in progress -/

/-- All a mirrored write can do: passed without a copy, uncounted or counted; passed with a reservation; or overridden. -/
theorem State.mirroredWrite_cases (s : State) (m : MasterId) (addr : Word) (h : Hit) (d : WriteData) :
    let q := s.port h.port
    (h.writePermitted = false ∧ s.mirroredWrite m addr h d = s.pass ⟨m, addr, .write d, none⟩) ∨
      (h.writePermitted = true ∧ (q.refusal .posted = some .portState ∨ q.refusal .posted = some .noRoom ∧ q.flowing = false) ∧
        s.mirroredWrite m addr h d = (s.loseMirror h.port).pass ⟨m, addr, .write d, none⟩) ∨
      (h.writePermitted = true ∧ q.refusal .posted = none ∧ s.mirroredWrite m addr h d =
        (s.reserveMirror ⟨h.port, h.remote⟩ d).pass ⟨m, addr, .write d, some ⟨h.port, h.remote⟩⟩) ∨
      (h.writePermitted = true ∧ q.refusal .posted = some .noRoom ∧ q.flowing = true ∧
        s.mirroredWrite m addr h d = s.withAnswer .override) := by
  dsimp only
  unfold State.mirroredWrite
  cases hp : h.writePermitted
  · exact .inl ⟨rfl, rfl⟩
  · right
    cases hr : (s.port h.port).refusal .posted with
    | none => exact .inr (.inl ⟨rfl, rfl, rfl⟩)
    | some x =>
      cases x with
      | portState => exact .inl ⟨rfl, .inl rfl, rfl⟩
      | noRoom =>
        by_cases hf : (s.port h.port).flowing = true
        · exact .inr (.inr ⟨rfl, rfl, hf, if_pos hf⟩)
        · exact .inl ⟨rfl, .inr ⟨rfl, by simpa using hf⟩, if_neg hf⟩

/-- All a termination can do: end an access that holds no reservation, commit the reservation, or release it. -/
theorem State.terminateAccess_cases (s : State) (t : Termination) :
    (s.target.reservation = none ∧ s.terminateAccess t = s.setTarget { s.target with access := none }) ∨
      ∃ p, s.target.reservation = some p ∧
        ((t = .ack ∧ s.terminateAccess t = s.commitMirror p) ∨ (t ≠ .ack ∧ s.terminateAccess t = s.releaseMirror p)) := by
  unfold State.terminateAccess
  cases hr : s.target.reservation with
  | none => exact .inl ⟨rfl, rfl⟩
  | some p => refine .inr ⟨p, rfl, ?_⟩; cases t <;> simp

/-! ## Admission -/

/-- A record is admitted exactly when the port's state takes its source and there is room (Table 1-7). -/
theorem Port.refusal_eq_none (q : Port) (x : Source) :
    q.refusal x = none ↔ q.refusesState x = false ∧ q.poolCount < 16 := by
  unfold Port.refusal Port.hasRoom
  cases q.refusesState x
  · simp only [Config.poolSize, Bool.false_eq_true, if_false, true_and, Bool.not_eq_true']
    by_cases h : q.poolCount < 16 <;> simp [h]
  · simp

/-- The pool count rises by one when a record joins its lane. -/
theorem Port.join_poolCount (q : Port) (r : Record) : (q.join r).poolCount = q.poolCount + 1 := by
  unfold Port.join Port.poolCount
  cases r.lane <;> simp <;> omega

/-! ## The arbiter -/

/-- All the arbiter can do: nothing, the next resend of an active run, a due probe, or the issue of the head of a lane. -/
theorem Port.arbitrate_cases (q : Port) :
    q.arbitrate = q ∨
      (q.transmitter = none ∧ q.link = .up ∧ q.backoff = none ∧ ∃ w, q.nextResend = some w ∧ q.arbitrate = q.beginResend w) ∨
      (q.transmitter = none ∧ q.link = .probing ∧ q.phase = .due ∧ q.arbitrate = q.beginProbe) ∨
      (q.transmitter = none ∧ q.link = .up ∧ q.backoff = none ∧ q.nextResend = none ∧
        q.window.length < q.effectiveWindow.toNat ∧ ∃ r rest, q.priority = r :: rest ∧ r.reserved = false ∧
          q.arbitrate = Port.issue { q with priority := rest } r) ∨
      (q.transmitter = none ∧ q.link = .up ∧ q.backoff = none ∧ q.nextResend = none ∧
        q.window.length < q.effectiveWindow.toNat ∧ q.queue = .run ∧ ∃ r rest, q.normal = r :: rest ∧ r.reserved = false ∧
          q.arbitrate = Port.issue { q with normal := rest } r) := by
  by_cases ht : q.transmitter = none
  swap
  · left; simp [Port.arbitrate, Option.isSome_iff_ne_none, ht]
  have ha : q.arbitrate = q.choose := by simp [Port.arbitrate, ht]
  rw [ha]
  unfold Port.choose
  cases hl : q.link with
  | off => exact .inl rfl
  | lost => exact .inl rfl
  | probing =>
    by_cases hp : q.phase = .due
    · simp [hp, ht]
    · simp [hp]
  | up =>
    cases hb : q.backoff with
    | some t => simp
    | none =>
      cases hn : q.nextResend with
      | some w => simp [ht]
      | none =>
        cases hpri : q.priorityHead with
        | some r =>
          unfold Port.priorityHead at hpri
          cases hl' : q.priority with
          | nil => simp [hl'] at hpri
          | cons x rest =>
            simp only [hl', Bool.and_eq_true, Option.ite_none_right_eq_some, Option.some.injEq] at hpri
            obtain ⟨⟨h1, h2⟩, rfl⟩ := hpri
            simp only [Port.windowOpen, decide_eq_true_eq] at h1
            simp only [Record.queued, Bool.not_eq_true'] at h2
            right; right; right; left
            simp [ht, h1, h2]
        | none =>
          cases hno : q.normalHead with
          | some r =>
            unfold Port.normalHead at hno
            cases hl' : q.normal with
            | nil => simp [hl'] at hno
            | cons x rest =>
              simp only [hl', Bool.and_eq_true, Option.ite_none_right_eq_some, Option.some.injEq] at hno
              obtain ⟨⟨⟨h0, h1⟩, h2⟩, rfl⟩ := hno
              simp only [Port.windowOpen, decide_eq_true_eq] at h1
              simp only [Record.queued, Bool.not_eq_true'] at h2
              simp only [beq_iff_eq] at h0
              right; right; right; right
              simp [ht, h0, h1, h2]
          | none => simp

/-- The next resend is an outstanding record that the run still holds. -/
theorem Port.nextResend_mem {q : Port} {w : Sent} (h : q.nextResend = some w) : w ∈ q.window ∧ w.seq ∈ q.resendRun := by
  unfold Port.nextResend at h
  obtain ⟨n, hn, hw⟩ := List.exists_of_findSome?_eq_some h
  have hs := List.find?_some hw
  simp only [beq_iff_eq] at hs
  exact ⟨List.mem_of_find?_eq_some hw, hs ▸ hn⟩

/-! ## The sequencer -/

/-- The retry of the oldest begins a run or exhausts it; an empty window leaves the state. -/
theorem State.retryOldest_cases (s : State) (p : PortId) :
    ((s.port p).window = [] ∧ s.retryOldest p = s) ∨
      ∃ w rest, (s.port p).window = w :: rest ∧
        ((w.retry < (s.port p).config.retryLimit.toNat ∧
            s.retryOldest p = (s.modPort p (fun q => q.raiseRetry.beginRun)).arbitrate p) ∨
          ((s.port p).config.retryLimit.toNat ≤ w.retry ∧ s.retryOldest p = s.exhaust p w .timeout)) := by
  unfold State.retryOldest
  dsimp only
  split
  · rename_i h; exact .inl ⟨h, rfl⟩
  · rename_i w rest h
    refine .inr ⟨w, rest, h, ?_⟩
    split
    · rename_i hc; exact .inl ⟨hc, rfl⟩
    · rename_i hc; exact .inr ⟨Nat.le_of_not_lt hc, rfl⟩

/-- A busy refusal begins backoff or exhausts the oldest; an empty window leaves the state. -/
theorem State.busyRefusal_cases (s : State) (p : PortId) :
    ((s.port p).window = [] ∧ s.busyRefusal p = s) ∨
      ∃ w rest, (s.port p).window = w :: rest ∧
        ((w.busy < (s.port p).config.busyLimit.toNat ∧ s.busyRefusal p = s.modPort p (·.beginBackoff s.now)) ∨
          ((s.port p).config.busyLimit.toNat ≤ w.busy ∧ s.busyRefusal p = s.exhaust p w .busy)) := by
  unfold State.busyRefusal
  dsimp only
  split
  · rename_i h; exact .inl ⟨h, rfl⟩
  · rename_i w rest h
    refine .inr ⟨w, rest, h, ?_⟩
    split
    · rename_i hc; exact .inl ⟨hc, rfl⟩
    · rename_i hc; exact .inr ⟨Nat.le_of_not_lt hc, rfl⟩

/-- A response that names a record is stale, out of order, or acts on the oldest (Table 3-2). -/
theorem State.respond_cases (s : State) (p : PortId) (r : Seq) (act : Sent → State) :
    s.respond p r act = s.stale p ∨
      ((s.port p).link = .up ∧ (s.port p).backoff = none ∧ (∃ w rest, (s.port p).window = w :: rest ∧ w.seq ≠ r) ∧
        r ∈ (s.port p).window.map Sent.seq ∧ s.respond p r act = s.outOfOrder p) ∨
      ((s.port p).link = .up ∧ ∃ w rest, (s.port p).window = w :: rest ∧ w.seq = r ∧ s.respond p r act = act w) := by
  unfold State.respond
  dsimp only
  split
  · exact .inl rfl
  · rename_i hl
    have hl : (s.port p).link = .up := by simpa using hl
    split
    · exact .inl rfl
    · rename_i w rest hw
      split
      · rename_i hr; exact .inr (.inr ⟨hl, w, rest, hw, hr, rfl⟩)
      · rename_i hr
        split
        · exact .inl rfl
        · rename_i ho
          split
          · exact .inl rfl
          · rename_i hb
            refine .inr (.inl ⟨hl, by simpa using hb, ⟨w, rest, hw, hr⟩, ?_, rfl⟩)
            simp only [Port.outstanding, Bool.not_eq_true', Bool.not_eq_false, List.any_eq_true, beq_iff_eq] at ho
            obtain ⟨x, hx, hxr⟩ := ho
            exact List.mem_map.2 ⟨x, hx, hxr⟩

/-! ## The event queue -/

/-- An offer is masked, lost, or written and judged (R149, R150). -/
theorem EventQueue.offer_cases (e : EventQueue) (now : Nat) (o : Offer) :
    (e.enables o.kind = false ∧ e.offer now o = e) ∨
      (e.enables o.kind = true ∧ 64 ≤ e.records.length ∧ e.offer now o = { e with lost := satSucc8 e.lost }) ∨
      (e.enables o.kind = true ∧ e.records.length < 64 ∧ e.offer now o = EventQueue.judged { e with
        records := e.records ++ [⟨o, e.lost, e.timestamp⟩]
        lost := 0
        holdoff := if e.records.isEmpty then e.holdoffStart now else e.holdoff }) := by
  unfold EventQueue.offer
  split
  · rename_i h; exact .inl ⟨by simpa using h, rfl⟩
  · rename_i h
    have h : e.enables o.kind = true := by simpa using h
    split
    · rename_i hl; exact .inr (.inr ⟨h, hl, rfl⟩)
    · rename_i hl; exact .inr (.inl ⟨h, Nat.le_of_not_lt hl, rfl⟩)

/-- The settings of the event queue are no part of an offer. -/
theorem EventQueue.offer_settings (e : EventQueue) (now : Nat) (o : Offer) :
    (e.offer now o).mask = e.mask ∧ (e.offer now o).irqEnable = e.irqEnable ∧ (e.offer now o).threshold = e.threshold ∧
      (e.offer now o).holdoffSteps = e.holdoffSteps ∧ (e.offer now o).timestamp = e.timestamp ∧
      (e.offer now o).popResult = e.popResult := by
  obtain ⟨-, h⟩ | ⟨-, -, h⟩ | ⟨-, -, h⟩ := e.offer_cases now o <;> rw [h] <;> exact ⟨rfl, rfl, rfl, rfl, rfl, rfl⟩

/-! ## The delayed-read slots -/

/-- A slot is struck by a write (R11). -/
def DelayedReads.struck (d : DelayedReads) (p : PortId) (r : Record) (n : SlotId) : Bool :=
  match d.slots[n] with
  | some slot => slot.invalidatedBy p r
  | none => false

theorem DelayedReads.invalidateSlot_slots (d : DelayedReads) (p : PortId) (r : Record) (n m : SlotId) :
    (d.invalidateSlot p r n).slots[m] = if m = n ∧ d.struck p r n = true then none else d.slots[m] := by
  unfold DelayedReads.invalidateSlot DelayedReads.struck
  cases hs : d.slots[n] with
  | none => simp
  | some slot =>
    dsimp only
    by_cases hi : slot.invalidatedBy p r = true
    · simp only [hi, if_true, and_true]
      exact d.setSlot_slots n none m
    · simp [hi]

/-- The invalidation check frees the slots struck and no other (R11). -/
theorem DelayedReads.invalidate_slots (d : DelayedReads) (p : PortId) (r : Record) (n : SlotId) :
    (d.invalidate p r).slots[n] = if d.struck p r n = true then none else d.slots[n] := by
  have hstep : ∀ (d : DelayedReads) (m k : SlotId), m ≠ k → (d.invalidateSlot p r m).struck p r k = d.struck p r k := by
    intro d m k h
    unfold DelayedReads.struck
    rw [DelayedReads.invalidateSlot_slots, if_neg (fun hc => h hc.1.symm)]
  unfold DelayedReads.invalidate fourNumbers
  simp only [List.foldl, DelayedReads.invalidateSlot_slots]
  have h01 : (0 : SlotId) ≠ 1 := by decide
  have h02 : (0 : SlotId) ≠ 2 := by decide
  have h03 : (0 : SlotId) ≠ 3 := by decide
  have h12 : (1 : SlotId) ≠ 2 := by decide
  have h13 : (1 : SlotId) ≠ 3 := by decide
  have h23 : (2 : SlotId) ≠ 3 := by decide
  simp only [hstep _ _ _ h23, hstep _ _ _ h13, hstep _ _ _ h03, hstep _ _ _ h12, hstep _ _ _ h02, hstep _ _ _ h01]
  rcases n with ⟨n, hn⟩
  interval_cases n <;> simp

theorem DelayedReads.invalidate_settings (d : DelayedReads) (p : PortId) (r : Record) :
    (d.invalidate p r).refusals = d.refusals ∧ (d.invalidate p r).discardSteps = d.discardSteps := by
  have h : ∀ (d : DelayedReads) (n : SlotId), (d.invalidateSlot p r n).refusals = d.refusals ∧
      (d.invalidateSlot p r n).discardSteps = d.discardSteps := by
    intro d n
    unfold DelayedReads.invalidateSlot
    split
    · split <;> exact ⟨rfl, rfl⟩
    · exact ⟨rfl, rfl⟩
  unfold DelayedReads.invalidate fourNumbers
  simp only [List.foldl, h, and_self]

/-- The slot the DRU finds holds the key. -/
theorem State.findKey_some {s : State} {k : ReadKey} {n : SlotId} {slot : ReadSlot} (h : s.findKey k = some (n, slot)) :
    s.readSlot n = some slot ∧ slot.key = k := by
  unfold State.findKey at h
  obtain ⟨m, -, hm⟩ := List.exists_of_findSome?_eq_some h
  cases hs : s.readSlot m with
  | none => simp [hs] at hm
  | some x =>
    simp only [hs, Option.ite_none_right_eq_some, Option.some.injEq, Prod.mk.injEq] at hm
    obtain ⟨hk, rfl, rfl⟩ := hm
    exact ⟨hs, hk⟩

/-- The DRU finds no slot exactly when none holds the key. -/
theorem State.findKey_none {s : State} {k : ReadKey} :
    s.findKey k = none ↔ ∀ n slot, s.readSlot n = some slot → slot.key ≠ k := by
  unfold State.findKey
  rw [List.findSome?_eq_none_iff]
  constructor
  · intro h n slot hs
    have := h n (by fin_cases n <;> decide)
    simpa [hs] using this
  · intro h n _
    cases hs : s.readSlot n with
    | none => rfl
    | some slot => simp [h n slot hs]

/-! ## The receiver -/

theorem receiveBytes_append (r : Receiver) (a b : List Byte) :
    receiveBytes r (a ++ b) =
      ((receiveBytes (receiveBytes r a).1 b).1, (receiveBytes r a).2 ++ (receiveBytes (receiveBytes r a).1 b).2) := by
  induction a generalizing r with
  | nil => rfl
  | cons x a ih => simp [receiveBytes, ih, List.append_assoc]

/-- A good frame of a listening port puts the receiver in HUNT and is delivered; another is malformed; a port that does not
listen takes nothing (R32, R34, R36). -/
theorem State.stationFrame_cases (s : State) (p : PortId) (f : StationFrame) :
    ((s.port p).listening = false ∧ s.stationFrame p f = s) ∨
      ((s.port p).listening = true ∧ f.good = true ∧ s.stationFrame p f = (s.modPort p Port.toHunt).deliver p f) ∨
      ((s.port p).listening = true ∧ f.good = false ∧
        s.stationFrame p f = (s.modPort p Port.toHunt).modPort p Port.countMalformed) := by
  unfold State.stationFrame
  by_cases h : (s.port p).listening = true
  · rw [if_pos h]
    by_cases hg : f.good = true
    · exact .inr (.inl ⟨h, hg, by simp [hg, State.reception]⟩)
    · exact .inr (.inr ⟨h, by simpa using hg, by simp [hg, State.reception]⟩)
  · rw [if_neg h]
    exact .inl ⟨by simpa using h, rfl⟩

end Sys2Proof.Machine
end

