-- ==== Sys2Proof/Tests/Slice0.lean ====
section
/-! SUPPORT. The author's own tests: the well-formedness smoke, single steps whose expected results are the spec's own worked
examples and tables, and for every statement with hypotheses a witness that meets them, clause by clause. -/

namespace Sys2Proof.Tests

open Sys2Proof Sys2Proof.Machine

/-! ## Well-formedness: an ill-formed term for each check -/

/-- Each of the thirteen checks refuses a term just outside it. -/
theorem test_wellFormed_refuses :
    [Instr.ownedWrite 0 2 (.four ⟨0, 0, 0, 0⟩), .ownedRead 0 8 .sixteen, .mirroredWrite 0 1 (.two 0 0),
      .passedAccess 0 1 (.read .two), .registerWrite 2 .read4, .registerWrite 8 (.wrongSize .read .sixteen),
      .portCommandUnknown 0 1, .portCommandUnknown 0 0x16, .slotCommandUnknown 0 3, .eventCommandUnknown 1,
      .globalCommandUnknown 0x21, .dataFrameReceived 0 false 0 [], .dataFrameReceived 0 false 0 (List.replicate 17 0),
      .identFrameReceived 0 false 0 0 0 0, .identFrameReceived 0 false 0 0 0 9].map Instr.wellFormed =
      List.replicate 15 false := by decide

/-- Each check takes a term on its boundary. -/
theorem test_wellFormed_takes :
    [Instr.ownedWrite 0 0xFFFFFFFC (.four ⟨0, 0, 0, 0⟩), .ownedRead 0 0xFFFFFFF0 .sixteen, .mirroredWrite 0 2 (.two 0 0),
      .passedAccess 0 1 (.read .one), .registerWrite 0x3FC .read4, .registerWrite 0x3F0 (.wrongSize .read .sixteen),
      .portCommandUnknown 0 0, .portCommandUnknown 0 7, .slotCommandUnknown 0 4, .eventCommandUnknown 0,
      .globalCommandUnknown 2, .dataFrameReceived 0 false 0 [0], .dataFrameReceived 0 false 0 (List.replicate 16 0),
      .identFrameReceived 0 false 0 0 0 1, .identFrameReceived 0 false 0 0 0 8].map Instr.wellFormed =
      List.replicate 15 true := by decide

/-! ## Small states -/

/-- A state after a command; the same state if the command did not complete. -/
def after (c : Instr) (s : State) : State :=
  match exec c s with
  | .next t => t
  | _ => s

/-- A port after reset, with carrier. -/
def offPort : Port := Port.resetWith true PortConfig.reset

/-- An UP and RUN port with a station of window 4. -/
def upPort : Port :=
  { offPort with link := .up, station := ⟨true, 0x0412, 3, 4, false⟩, effectiveWindow := 4 }

/-- A PROBING port that waits for the answer to probe 5. -/
def waitingPort : Port :=
  { offPort with link := .probing, phase := .waiting, probeSeq := some 5, nextSeq := 5, probeTimer := some 100 }

/-- A LOST and HELD port, its re-probe interval running. -/
def lostPort : Port := { offPort with link := .lost, queue := .held, lossCause := .carrier, probeTimer := some 10000 }

/-- A posted 4-byte write to a remote address. -/
def write4 (remote : Word) : Record := postedRecord remote (.four ⟨1, 2, 3, 4⟩)

/-- A port with `k` posted writes in its NORMAL lane. -/
def withNormal (k : Nat) (q : Port) : Port := { q with normal := List.replicate k (write4 0x100) }

/-- The reset state with port 0 and window entry 0 replaced. -/
def bench (w : WindowEntry) (q : Port) : State := (State.reset.setWindow 0 w).setPort 0 q

/-- An enabled 4 KiB entry at 0x00010000 on port 0, with remote base 0. -/
def entry (mode : WindowMode) (r w : Bool) : WindowEntry := ⟨true, mode, 0, 0, 0x10, 0, r, w⟩

/-- What a lookup in `bench (entry …) …` reports for an address of the window. -/
def found (mode : WindowMode) (r w : Bool) (remote : Word) : Hit := ⟨0, mode, 0, remote, r, w⟩

/-! ## Worked examples of the spec, one step each -/

/-- Section 11 (after Table 11-3): the configuration registers at reset. -/
theorem test_configuration_reset_words :
    PortConfig.reset.wordA = 0x0A018342 ∧ PortConfig.reset.wordB = 0x00100019 := by decide

/-- Section 11: the record of the last example of chapter 10, word by word. -/
theorem test_event_record_words :
    let r : EventRecord := ⟨⟨.requestDone, 2, .ok, 0, .requestSlot 3⟩, 2, 9120⟩
    r.word0 = 0x00020A28 ∧ r.timestamp = 0x000023A0 ∧ r.offer.detail.word = 3 := by decide

/-- The table of section 6.6. -/
def exampleTable : Vector WindowEntry 12 :=
  ((((State.reset.setWindow 0 ⟨true, .owned, 1, 4, 0x40000, 0x0002000, true, true⟩).setWindow 2
    ⟨true, .owned, 1, 0, 0x4000F, 0x0009000, false, false⟩).setWindow 3
    ⟨true, .mirrored, 2, 8, 0x40000, 0x0010000, false, true⟩).setWindow 5
    ⟨true, .owned, 0, 0, 0x40100, 0xFFFFF80, true, true⟩).windows

/-- Table 6-4: the translated addresses, entry 0 winning over 2 and 3, and the wrap past the top of the remote space. -/
theorem test_lookup_example :
    (lookup exampleTable 0x40008004).map Hit.remote = some 0x00028004 ∧
      (lookup exampleTable 0x4000F010).map (fun h => (h.entry, h.remote)) = some (0, 0x0002F010) ∧
      (lookup exampleTable 0x40010010).map (fun h => (h.mode, h.remote)) = some (.mirrored, 0x00110010) ∧
      (lookup exampleTable 0x40100900).map Hit.remote = some 0x00000100 ∧ lookup exampleTable 0x40101000 = none := by
  decide

/-- The queue of Table 1-10: W1, R slot 1 and Q slot 2 outstanding, Q slot 3 behind, W4 and W5 waiting. -/
def lossExample : State :=
  let request := fun n => (⟨.priority, .request n, .write, 0x40, 4, [], false⟩ : Record)
  let q : Port := { upPort with
    window := [⟨write4 0x10, 5, 3, 0⟩, ⟨readRecord 1 0x20 .four, 6, 0, 0⟩, ⟨request 2, 7, 0, 0⟩]
    nextSeq := 8
    priority := [request 3]
    normal := [write4 0x50, write4 0x54]
    postedIn := 10
    postedDone := 7
    responseTimer := some 100 }
  (State.reset.setPort 2 q).setReadSlot 1 (some ⟨⟨0, 0x20, .four⟩, 2, 0x20, .pending⟩)

/-- Table 1-11: exhaustion of W1 with cause TIMEOUT. -/
theorem test_loss_example :
    let t := after (.responseTimerExpiry 2) lossExample
    let q := t.port 2
    (q.window.length, q.priority.map Record.source, q.normal.map Record.remote) =
        (0, [.request 2, .request 3], [0x50, 0x54]) ∧
      (q.link, q.lossCause, q.queue, q.poolCount, q.postedDrop) = (.lost, .timeout, .held, 4, 1) ∧
      t.events.records.map (fun e => (e.offer.kind, e.offer.detail)) =
        [(.writeFault, .sequence 5), (.linkLost, .returned 2)] ∧
      (t.readSlot 1).map ReadSlot.state = some (.failed .held 512) := by decide

/-- Table 2-6: an ACK whose sequence byte reads 0x49 is malformed at HEADER. -/
theorem test_flipped_sequence_is_malformed :
    let q := (after (.malformedFrame 0 [0xC3, 0x5A, 0x08, 0x49, 0x00]) (bench WindowEntry.reset upPort)).port 0
    (q.malformedFrames, q.crcErrors, q.receiver) = (1, 0, .hunt false) := by decide

/-- Table 2-6: the carrier drops in the CHECK phase, after the first CRC byte. -/
theorem test_carrier_drops_in_check :
    let header : Header := ⟨[8, 11, 0], false, .ack, 11, 0⟩
    let q : Port := { upPort with receiver := .check header [] [0x12], malformedFrames := 1 }
    let t := (after (.carrierLost 0) (bench WindowEntry.reset q)).port 0
    (t.malformedFrames, t.receiver, t.link, t.lossCause, t.queue) = (2, .hunt false, .lost, .carrier, .held) := by decide

/-- Table 3-6, first line: REJECT SEQUENCE that names the oldest begins a run from it. -/
theorem test_gap_example :
    let sent := fun (n : Seq) => (⟨write4 0x100, n, 0, 0⟩ : Sent)
    let q : Port := { upPort with window := [sent 14, sent 15, sent 0, sent 1], nextSeq := 2, normal := [write4 0x200] }
    let t := (after (.rejectFrameReceived 0 false 15 .sequence 14) (bench WindowEntry.reset q)).port 0
    (t.window.map (fun w => (w.seq, w.retry)), t.resendRun, t.retransmissions, t.staleResponses) =
        ([(14, 1), (15, 0), (0, 0), (1, 0)], [15, 0, 1], 1, 0) ∧
      t.transmitter = some ⟨.write 14 0x100 [1, 2, 3, 4], true⟩ := by decide

/-- Table 4-4, last line: the restarted station is accepted. -/
theorem test_restart_example :
    let q : Port := { offPort with
      link := .probing, phase := .waiting, probeSeq := some 6, nextSeq := 6, station := ⟨true, 0x0412, 3, 8, false⟩ }
    let s := State.reset.setPort 3 q
    let t := after (.identFrameReceived 3 true 6 0x0412 4 2) s
    ((t.port 3).link, (t.port 3).station, (t.port 3).effectiveWindow, (t.port 3).nextSeq) =
        (.up, ⟨true, 0x0412, 4, 2, true⟩, 2, 7) ∧
      t.events.records.map (fun e => e.offer.kind) = [.stationChanged, .linkUp, .attention] := by decide

/-- Tables 5-5 and 5-6: the refusal of a posted write. -/
theorem test_refusal_example :
    let q : Port := { upPort with
      window := [⟨write4 0x30, 3, 0, 0⟩, ⟨readRecord 2 0x40 .four, 4, 0, 0⟩]
      effectiveWindow := 2
      nextSeq := 5
      normal := [readRecord 0 0x50 .four, write4 0x60, write4 0x64] }
    let s := (bench WindowEntry.reset q).setReadSlot 0 (some ⟨⟨0, 0x50, .four⟩, 0, 0x50, .pending⟩)
    let t := after (.rejectFrameReceived 0 false 3 .denied 0) s
    ((t.port 0).window.map Sent.seq, (t.port 0).normal.map Record.remote, (t.port 0).queue, (t.port 0).link) =
        ([4], [0x60, 0x64], .held, .up) ∧
      (t.port 0).responseTimer = some 100 ∧ (t.readSlot 0).map ReadSlot.state = some (.failed .held 512) ∧
      t.events.records.map EventRecord.offer = [⟨.writeFault, 0, .denied, 0x30, .sequence 3⟩] := by decide

/-- Table 7-8: no room and flowing is OVERRIDE; no room and LOST is a PASS without a copy; with room, a reservation. -/
theorem test_mirror_example :
    let s := fun q => bench (entry .mirrored true true) q
    let w := Instr.mirroredWrite 0 0x10000 (.four ⟨1, 2, 3, 4⟩)
    (after w (s (withNormal 16 upPort))).answer = .override ∧
      ((after w (s (withNormal 16 lostPort))).answer, ((after w (s (withNormal 16 lostPort))).port 0).mirrorLost) =
        (.pass, 1) ∧
      ((after w (s (withNormal 15 lostPort))).port 0).normal.getLast?.map Record.reserved = some true := by decide

/-- Table 8-5, at 120 µs: a posted write frees the READY slot it overlaps and no other. -/
theorem test_invalidation_example :
    let slot := fun (m : MasterId) (a r : Word) (z : Size) => some (⟨⟨m, a, z⟩, 0, r, .ready [] 600⟩ : ReadSlot)
    let s := ((bench ⟨true, .owned, 0, 4, 0x50000, 0x0030000, true, true⟩ upPort).setReadSlot 0
      (slot 0 0x50000010 0x00300010 .four)).setReadSlot 1 (slot 1 0x50000100 0x00300100 .sixteen)
    let t := after (.ownedWrite 3 0x50000108 (.four ⟨1, 2, 3, 4⟩)) s
    (t.answer, t.readSlot 1, (t.readSlot 0).isSome, t.reads.invalidations, t.events.records) =
      (.ack, none, true, 1, []) := by decide

/-- Table 9-6: SUBMIT with the pool full completes with REFUSED and writes REQUEST_DONE. -/
theorem test_refused_submit_example :
    let slot : RequestSlot := ⟨.idle, 0, .write, 0x00FF0020, 4, Vector.replicate 16 0, true, true, .none⟩
    let s := (bench WindowEntry.reset (withNormal 16 lostPort)).setRequest 2 slot
    let t := after (.submit 2) s
    ((t.request 2).state, (t.request 2).commandResult, t.events.records.map (fun e => (e.offer.kind, e.offer.cause))) =
      (.complete .refused, .done, [(.requestDone, .refused)]) := by decide

/-- Table 10-4, at 1,230: a POP that leaves a record restarts the holdoff timer, and the line falls. -/
theorem test_pop_example :
    let r : EventRecord := ⟨⟨.linkLost, 0, .carrier, 0, .returned 2⟩, 0, 1000⟩
    let e : EventQueue := ⟨[r, r], 0, .none, .runOut, 1230, 0x1EF, true, 8, 25, true⟩
    let t := after .pop { State.reset with events := e, now := 1230 }
    (t.events.records.length, t.events.holdoff, t.events.line, t.events.popResult) =
      (1, .running 1430, false, .done) := by decide

/-- Section 11 (R163): a WRITE frame's opening bytes, and an ACK frame's with the attention flag. -/
theorem test_frame_bytes :
    ((BridgeFrame.write 9 0x00028004 [1, 2, 3, 4]).bytes).take 9 = [0xC3, 0x5A, 1, 9, 4, 0, 2, 0x80, 4] ∧
      (StationFrame.headerAndBody ⟨true, 9, .ack⟩) = [0x88, 9, 0] := by decide

/-- R22: over a frame that passes, the computation leaves 0. -/
theorem test_crc_leaves_zero : crc ([3, 6, 0] ++ crcBytes [3, 6, 0]) = 0 := by decide +kernel


/-- An event queue of `k` records that is sound. -/
def eventsOf (k : Nat) : EventQueue :=
  ⟨List.replicate k ⟨⟨.linkUp, 0, .none, 0, .none⟩, 0, 0⟩, 255, .none, .running 9, 5, 0x1FE, false, 64, 0, false⟩

/-! ## Lawful states that exercise every law -/

/-- A port with a record of each source: posted outstanding, a read and (if `held` is given) a RESERVED record in the NORMAL
lane, an explicit request in the PRIORITY lane. -/
def busyPort (queue : QueueState) (held : Option HeldAccess) : Port :=
  { upPort with
    window := [⟨write4 0x10, 4, 3, 8⟩, ⟨write4 0x14, 5, 0, 0⟩]
    nextSeq := 6
    resendRun := [5]
    responseTimer := some 100
    transmitter := some ⟨.write 4 0x10 [1, 2, 3, 4], true⟩
    priority := [⟨.priority, .request 1, .read, 0x40, 4, [], false⟩]
    normal := readRecord 0 0x20 .four :: HostTarget.reservedFor ⟨held, none, none⟩ 0
    postedIn := 2
    queue := queue }

/-- An access that holds a reservation. -/
def heldAccess : HeldAccess := ⟨2, 0x00011000, .write (.two 7 8), some ⟨0, 0x30⟩⟩

/-- An access that was passed without a reservation. -/
def passedRead : HeldAccess := ⟨1, 0x00020000, .read .four, none⟩

/-- The accesses in progress that `lawfulState` is lawful with. -/
def Held (held : Option HeldAccess) : Prop := held = none ∨ held = some heldAccess ∨ held = some passedRead

/-- The request slot whose record stands in the PRIORITY lane of `busyPort`. -/
def submittedSlot : RequestSlot :=
  { RequestSlot.reset with state := .submitted, operation := .read, remote := 0x40, length := 4, priorityOption := true }

/-- A lawful state with `c` at the front of its queue of commands. -/
def lawfulState (queue : QueueState) (held : Option HeldAccess) (c : Instr) : State :=
  let s := (bench (entry .owned true true) (busyPort queue held)).setRequest 1 submittedSlot
  let s := (s.setReadSlot 0 (some ⟨⟨0, 0x10020, .four⟩, 0, 0x20, .pending⟩)).setReadSlot 3
    (some ⟨⟨1, 0x10020, .four⟩, 0, 0x20, .ready [1, 2, 3, 4] 512⟩)
  { s.setTarget ⟨held, held.bind (fun a => a.mirror.map MirrorTarget.port), none⟩ with pending := [c] }

theorem busyPort_sound (queue : QueueState) (held : Option HeldAccess) (h : Held held) :
    (busyPort queue held).QueueSound ∧ (busyPort queue held).LinkSound := by
  rcases h with rfl | rfl | rfl <;> cases queue <;>
    refine ⟨⟨?_, ?_, ?_, ?_, ?_, ?_, ?_, ?_, ?_, ?_, ?_⟩, ⟨⟨?_, ?_, ?_, ?_, ?_⟩, ?_, ?_, ?_, ?_, ?_⟩⟩ <;> decide

theorem offPort_sound : offPort.QueueSound ∧ offPort.LinkSound := by
  refine ⟨⟨?_, ?_, ?_, ?_, ?_, ?_, ?_, ?_, ?_, ?_, ?_⟩, ⟨⟨?_, ?_, ?_, ?_, ?_⟩, ?_, ?_, ?_, ?_, ?_⟩⟩ <;> decide

theorem lawfulState_lawful (queue : QueueState) (held : Option HeldAccess) (c : Instr)
    (h : Held held) : (lawfulState queue held c).Lawful := by
  have hport : ∀ p, (lawfulState queue held c).port p = if p = 0 then busyPort queue held else offPort := by
    intro p; fin_cases p <;> rfl
  have hslot : ∀ n, (lawfulState queue held c).readSlot n = if n = 0 then some ⟨⟨0, 0x10020, .four⟩, 0, 0x20, .pending⟩
      else if n = 3 then some ⟨⟨1, 0x10020, .four⟩, 0, 0x20, .ready [1, 2, 3, 4] 512⟩ else none := by
    intro n; fin_cases n <;> rfl
  refine ⟨fun p => ?_, fun p => ?_, ⟨?_, ?_, ?_, ?_⟩, fun e => ?_, ⟨?_, ?_, ?_, ?_, ?_, ?_⟩, ⟨?_, ?_, ?_⟩, ?_, ?_⟩
  · rw [hport]; split
    · exact (busyPort_sound queue held h).1
    · exact offPort_sound.1
  · rw [hport]; split
    · exact (busyPort_sound queue held h).2
    · exact offPort_sound.2
  · show State.reset.events.records.length ≤ 64; decide
  · show State.reset.events.holdoff = .stopped ↔ State.reset.events.records = []; decide
  · show State.reset.events.line = State.reset.events.lineCondition; decide
  · show 1 ≤ State.reset.events.threshold.toNat ∧ State.reset.events.threshold.toNat ≤ 64; decide
  · have he : (lawfulState queue held c).window e = if e = 0 then entry .owned true true else WindowEntry.reset := by
      fin_cases e <;> rfl
    rw [he]
    clear he
    constructor <;> revert e <;> decide
  · intro p; rcases h with rfl | rfl | rfl <;> fin_cases p <;> rfl
  · intro p
    rw [hport]
    rcases h with rfl | rfl | rfl <;> cases queue <;> revert p <;> decide
  · rcases h with rfl | rfl | rfl <;> rfl
  · rfl
  · intro a ha hm
    rcases h with rfl | rfl | rfl <;> cases ha
    · exact ⟨_, rfl⟩
    · cases hm
  · rintro (h' | h') <;> cases h'
  · intro n p; rcases h with rfl | rfl | rfl <;> fin_cases n <;> fin_cases p <;> rfl
  · intro n m a b ha hb hk
    rw [hslot] at ha hb
    fin_cases n <;> fin_cases m <;> simp_all <;> subst_vars <;> simp at hk
  · intro n slot data deadline hs hd
    rw [hslot] at hs
    fin_cases n <;> simp at hs <;> subst hs <;> simp at hd
    obtain ⟨rfl, -⟩ := hd
    rfl
  · intro n p; rcases h with rfl | rfl | rfl <;> fin_cases n <;> fin_cases p <;> rfl
  · intro p
    rw [hport]
    rcases h with rfl | rfl | rfl <;> cases queue <;> revert p <;> decide

/-- With no access held, the bench and the lawful state are ready for an access. -/
theorem bench_ready (w : WindowEntry) (q : Port) : (bench w q).Ready := ⟨rfl, rfl, rfl⟩

theorem lawfulState_ready (queue : QueueState) (c : Instr) : (lawfulState queue none c).Ready := ⟨rfl, rfl, rfl⟩

/-! ## Witnesses: for each statement with hypotheses, a state and operands that meet them, clause by clause -/

theorem witness_OtherPortsUntouched :
    portNamed (.enable 3) = some 3 ∧ ∃ t, exec (.enable 3) State.reset = .next t := ⟨rfl, _, rfl⟩

theorem witness_LockedSettingsStand :
    let s := bench (entry .owned true true) upPort
    Instr.chipResetTaken ≠ .hardwareReset ∧ (∃ t, exec .chipResetTaken s = .next t) ∧ (s.port 0).link ≠ .off ∧
      (s.window 0).enable = true := ⟨by decide, ⟨_, rfl⟩, by decide, by decide⟩

/-- A lawful HELD port whose window holds a NORMAL record, and a step after which it is still HELD. -/
theorem witness_HeldQueueIssuesNoNormalRecord :
    let s := lawfulState .held none (.transmissionEnd 0)
    let t := after (.transmissionEnd 0) { s with pending := [] }
    s.Lawful ∧ step s = .next t ∧ (s.port 0).queue = .held ∧ (t.port 0).queue = .held ∧
      ∃ w ∈ (t.port 0).window, w.record.lane = .normal :=
  ⟨lawfulState_lawful _ _ _ (.inl rfl), rfl, rfl, by decide, ⟨write4 0x10, 4, 3, 8⟩, by decide, by decide⟩

/-- The hypotheses of QueueLawsKept, LinkLawsKept, ReservationLawKept, ReadLawKept, RequestLawKept and PostedLawKept together:
a lawful state with a reservation held, and the termination that commits it in front. -/
theorem witness_LawsKept :
    let s := lawfulState .run (some heldAccess) (.mirrorTermination .ack)
    s.Lawful ∧ ∃ t, step s = .next t := ⟨lawfulState_lawful _ _ _ (.inr (.inl rfl)), _, rfl⟩

/-- The same hypotheses while an access without a reservation is in progress. -/
theorem witness_LawsKept_passed :
    let s := lawfulState .run (some passedRead) (.mirrorTermination .berr)
    s.Lawful ∧ ∃ t, step s = .next t := ⟨lawfulState_lawful _ _ _ (.inr (.inr rfl)), _, rfl⟩

theorem witness_EventAndWindowLawsKept :
    let s := lawfulState .run none .pop
    (∃ t, step s = .next t) ∧ s.events.Sound ∧ ∀ e, (s.window e).Sound :=
  ⟨⟨_, rfl⟩, (lawfulState_lawful .run none .pop (.inl rfl)).events, (lawfulState_lawful .run none .pop (.inl rfl)).windows⟩

/-- The first and the last byte of a window lie inside it, the next address in no window. -/
theorem witness_LookupTakesTheLowestMatch :
    let w := (bench (entry .owned true true) upPort).windows
    let inside := fun (addr : Word) (e : EntryId) => w[e].enable = true ∧ w[e].baseWord.toNat ≤ addr.toNat ∧
      addr.toNat < w[e].baseWord.toNat + 4096 * 2 ^ w[e].sizeCode.toNat
    inside 0x10000 0 ∧ inside 0x10FFF 0 ∧ (∀ f : EntryId, f < 0 → ¬ inside 0x10FFF f) ∧ ∀ e, ¬ inside 0x11000 e := by
  decide

/-- The windows of a bench do not depend on its port, and its entry is found at the window's last word. -/
theorem bench_lookup (mode : WindowMode) (r w : Bool) (q : Port) :
    lookup (bench (entry mode r w) q).windows 0x10FFC = some (found mode r w 0xFFC) := by
  show lookup (State.reset.setWindow 0 (entry mode r w)).windows 0x10FFC = _
  cases mode <;> cases r <;> cases w <;> decide

/-- The hypotheses that the statements about a window access share. -/
theorem witness_access (mode : WindowMode) (r w : Bool) (q : Port) :
    (bench (entry mode r w) q).Ready ∧ (0x10FFC#32).toNat % Size.four.bytes = 0 ∧
      inRegisterWindow (bench (entry mode r w) q).pins 0x10FFC = false ∧
      lookup (bench (entry mode r w) q).windows 0x10FFC = some (found mode r w 0xFFC) :=
  ⟨bench_ready _ _, by decide, by show inRegisterWindow 0 0x10FFC = false; decide, bench_lookup mode r w q⟩

/-- Write permission 0; OFF; full and not flowing; full and flowing; the last place of the pool. -/
theorem witness_OwnedWriteFollowsItsTable :
    (found .owned true false 0xFFC).writePermitted = false ∧ offPort.link = .off ∧
      (16 ≤ (withNormal 16 lostPort).poolCount ∧ ¬ (lostPort.link = .up ∧ lostPort.queue = .run)) ∧
      (16 ≤ (withNormal 16 upPort).poolCount ∧ upPort.link = .up ∧ upPort.queue = .run) ∧
      (upPort.link ≠ .off ∧ (withNormal 15 upPort).poolCount < 16) := by decide

/-- One byte in common, the slot's last and the record's first, frees slot 0; a slot one byte further stands. -/
theorem witness_InvalidationFreesOverlappedSlots :
    let slot := fun (r : Word) => some (⟨⟨0, 0x10000, .four⟩, 0, r, .ready [] 9⟩ : ReadSlot)
    let s := ((bench WindowEntry.reset upPort).setReadSlot 0 (slot 0x100)).setReadSlot 1 (slot 0x104)
    let r : Record := { write4 0x103 with length := 1 }
    let struck := fun (n : SlotId) => ∃ slot data deadline, s.readSlot n = some slot ∧ slot.state = .ready data deadline ∧
      slot.port = 0 ∧ ∃ b, slot.remote.toNat ≤ b ∧ b < slot.remote.toNat + slot.key.size.bytes ∧
        r.remote.toNat ≤ b ∧ b < r.remote.toNat + r.length
    1 ≤ r.length ∧ struck 0 ∧ ¬ struck 1 := by
  refine ⟨by decide, ⟨_, [], 9, rfl, rfl, rfl, 0x103, by decide, by decide, by decide, by decide⟩, ?_⟩
  rintro ⟨slot, _, _, hs, -, -, b, h1, -, -, h2⟩
  cases hs
  simp [write4, postedRecord] at h1 h2
  omega

/-- A state whose slot 2 holds the key of a read of window 0 in a state that is not PENDING. -/
def answeredState (x : ReadState) (remote : Word) : State :=
  (bench (entry .owned true true) upPort).setReadSlot 2 (some ⟨⟨1, 0x10FFC, .four⟩, 0, remote, x⟩)

theorem answeredState_readLaw (x : ReadState) (remote : Word) (h : x = .ready [1, 2, 3, 4] 9 ∨ x = .failed .held 9) :
    (answeredState x remote).ReadLaw := by
  have hslot : ∀ n, (answeredState x remote).readSlot n =
      if n = 2 then some ⟨⟨1, 0x10FFC, .four⟩, 0, remote, x⟩ else none := by intro n; fin_cases n <;> rfl
  refine ⟨fun n p => ?_, fun n m a b ha hb _ => ?_, fun n slot data deadline hs hd => ?_⟩
  · rcases h with rfl | rfl <;> fin_cases n <;> fin_cases p <;> rfl
  · rw [hslot] at ha hb
    split at ha <;> split at hb <;> simp_all
  · rw [hslot] at hs
    split at hs
    · cases hs
      rcases h with rfl | rfl
      · cases hd; rfl
      · cases hd
    · cases hs

/-- PENDING (slot 0 of the lawful state), READY and FAILED with the access's translation, and READY with another. -/
theorem witness_OwnedReadAnsweredFromItsSlot :
    ((lawfulState .run none .pop).Ready ∧ (lawfulState .run none .pop).ReadLaw ∧
      lookup (lawfulState .run none .pop).windows 0x10020 = some (found .owned true true 0x20) ∧
      (lawfulState .run none .pop).readSlot 0 = some ⟨⟨0, 0x10020, .four⟩, 0, 0x20, .pending⟩) ∧
    ((answeredState (.ready [1, 2, 3, 4] 9) 0xFFC).ReadLaw ∧ (answeredState (.failed .held 9) 0xFFC).ReadLaw ∧
      (answeredState (.ready [1, 2, 3, 4] 9) 0x40).ReadLaw) ∧
    (∀ x r, (answeredState x r).Ready ∧ lookup (answeredState x r).windows 0x10FFC = some (found .owned true true 0xFFC) ∧
      (answeredState x r).readSlot 2 = some ⟨⟨1, 0x10FFC, .four⟩, 0, r, x⟩) ∧ (0x40 : Word) ≠ 0xFFC :=
  ⟨⟨⟨rfl, rfl, rfl⟩, (lawfulState_lawful .run none .pop (.inl rfl)).reads, by decide, rfl⟩,
    ⟨answeredState_readLaw _ _ (.inl rfl), answeredState_readLaw _ _ (.inr rfl), answeredState_readLaw _ _ (.inl rfl)⟩,
    fun _ _ => ⟨⟨rfl, rfl, rfl⟩, bench_lookup .owned true true upPort, rfl⟩, by decide⟩

/-- Read permission 0; not flowing; every slot in use; a full pool; the last place of the pool with slot 2 the lowest FREE. -/
theorem witness_OwnedReadWithoutASlot :
    let other := fun (n : Word) => some (⟨⟨3, n, .four⟩, 0, n, .failed .held 9⟩ : ReadSlot)
    let two := fun (q : Port) => ((bench (entry .owned true true) q).setReadSlot 0 (other 0)).setReadSlot 1 (other 4)
    let four := fun (q : Port) => ((two q).setReadSlot 2 (other 8)).setReadSlot 3 (other 12)
    (found .owned false true 0xFFC).readPermitted = false ∧
      (∀ n slot, (four upPort).readSlot n = some slot → slot.key ≠ ⟨1, 0x10FFC, .four⟩) ∧
      ¬ (lostPort.link = .up ∧ lostPort.queue = .run) ∧ (upPort.link = .up ∧ upPort.queue = .run) ∧
      (∀ n, (four upPort).readSlot n ≠ none) ∧ 16 ≤ (withNormal 16 upPort).poolCount ∧
      (withNormal 15 upPort).poolCount < 16 ∧ (two (withNormal 15 upPort)).readSlot 2 = none ∧
      ∀ k : SlotId, k < 2 → (two (withNormal 15 upPort)).readSlot k ≠ none := by
  refine ⟨rfl, ?_, by decide, by decide, by decide, by decide, by decide, by decide, by decide⟩
  intro n slot h
  fin_cases n <;> cases h <;> decide

/-- Write permission 0, and the conditions of Table 7-4; the access hypotheses are those of `witness_access`. -/
theorem witness_MirroredWriteFollowsItsTable :
    (found .mirrored true false 0xFFC).writePermitted = false ∧ (found .mirrored true true 0xFFC).writePermitted = true ∧
      (found .mirrored true true 0xFFC).mode = .mirrored ∧ offPort.link = .off ∧
      (16 ≤ (withNormal 16 lostPort).poolCount ∧ ¬ (lostPort.link = .up ∧ lostPort.queue = .run)) ∧
      (16 ≤ (withNormal 16 upPort).poolCount ∧ upPort.link = .up ∧ upPort.queue = .run) ∧
      (lostPort.link ≠ .off ∧ (withNormal 15 lostPort).poolCount < 16) := by decide

theorem witness_MirrorTerminationCommitsOrReleases :
    let s := lawfulState .run (some heldAccess) .pop
    s.target.access = some heldAccess ∧ heldAccess.kind = .write (.two 7 8) ∧ s.target.reservation = some 0 ∧
      (s.port 0).normal = [readRecord 0 0x20 .four] ++ [reservedRecord 0x30 (.two 7 8)] ∧
      (reservedRecord 0x30 (.two 7 8)).reserved = true ∧ ∀ x ∈ [readRecord 0 0x20 .four], x.reserved = false := by decide

/-- No entry for the address after the window; a MIRRORED read; the pin asserted; a row off its alignment, and an access in
progress; a chip reset due. -/
theorem witness_PassedAccessLeavesNoTrace :
    let s := bench (entry .mirrored true true) upPort
    s.Ready ∧ lookup s.windows 0x11000 = none ∧ inRegisterWindow s.pins 0x11000 = false ∧
      (∃ h z, lookup s.windows 0x10FFC = some h ∧ h.mode = .mirrored ∧ AccessKind.read .four = .read z) ∧
      s.target.reservation = none ∧ ({ s with resetAsserted := true } : State).resetAsserted = true ∧
      (accessPresented (.registerWrite 0x3FE .read4) = some (0x3FE, 4) ∧ 0x3FE % 4 ≠ 0) ∧
      (accessPresented (.enable 0) = some (0, 4) ∧ (s.setTarget ⟨some passedRead, none, none⟩).target.access ≠ none) ∧
      ({ s with chipResetDue := true } : State).chipResetDue = true :=
  ⟨bench_ready _ _, by decide, by decide, ⟨found .mirrored true true 0xFFC, .four, rfl, rfl, rfl⟩, rfl, rfl, by decide,
    by decide, rfl⟩

/-- R109: a passed read is held, the next access is not presented while it is, and its termination ends it. -/
theorem test_passed_access_is_held :
    let s := bench (entry .mirrored true true) upPort
    let t := after (.passedAccess 1 0x20000 (.read .four)) s
    t.target = ⟨some passedRead, none, none⟩ ∧ (after .refusalCounterRead t).answer = .notPresented ∧
      (after (.mirrorTermination .berr) t).target = ⟨none, none, none⟩ := by decide

/-- The first and the last register of the map. -/
theorem witness_RegisterMapIsOneToOne :
    regAt 0 = some .identity ∧ regAt 0x3FC = some (.port 3 .probeAttempts) := by decide

/-- A wrong size at the last byte; the unassigned offset 0x00C; a register of each kind. -/
theorem witness_RegisterAccessFollowsItsTable :
    State.reset.Ready ∧ (0x3FF#10).toNat % WrongSize.one.bytes = 0 ∧ (0xC#10).toNat % 4 = 0 ∧
      (∀ r : Reg, r.offset ≠ (0xC#10).toNat) ∧
      (Reg.offset .classMask = (0x18#10).toNat ∧ Reg.kind .classMask = .setting) ∧
      (Reg.offset .eventStatus = (0x14#10).toNat ∧ Reg.kind .eventStatus = .status) ∧
      (Reg.offset .refusals = (0x44#10).toNat ∧ Reg.kind .refusals = .counter) ∧
      (Reg.offset (.port 3 .control) = (0x3C0#10).toNat ∧ Reg.kind (.port 3 .control) = .command) := by
  refine ⟨⟨rfl, rfl, rfl⟩, by decide, by decide, fun r => ?_, by decide, by decide, by decide, by decide⟩
  cases r <;> simp [Reg.offset] <;> omega

theorem witness_RegisterAccessAgreesWithItsRows :
    inRegisterWindow State.reset.pins 0xC0000000 = true ∧ inRegisterWindow State.reset.pins 0xC00003FF = true := by decide

/-- A full pool; a full event queue and an empty one; a FREE slot and one that is not. -/
theorem witness_StatusWordsShowTheState :
    (withNormal 16 upPort).QueueSound ∧ (bench WindowEntry.reset (withNormal 16 upPort)).port 0 = withNormal 16 upPort ∧
      (eventsOf 64).Sound ∧ (eventsOf 64).records = ⟨⟨.linkUp, 0, .none, 0, .none⟩, 0, 0⟩ :: (eventsOf 63).records ∧
      State.reset.events.records = [] ∧ State.reset.events.Sound ∧ State.reset.readSlot 0 = none ∧
      (answeredState (.failed .held 9) 0x40).readSlot 2 = some ⟨⟨1, 0x10FFC, .four⟩, 0, 0x40, .failed .held 9⟩ :=
  ⟨⟨by decide, by decide, by decide, by decide, by decide, by decide, by decide, by decide, by decide, by decide, by decide⟩,
    rfl, ⟨by decide, by decide, by decide, by decide⟩, rfl, rfl, ⟨by decide, by decide, by decide, by decide⟩, rfl, rfl⟩

/-- A configuration with its fields at the ends of their ranges, and values that are taken; a window control word taken by a
disabled entry and by an enabled one; the ends of the other settings' ranges. -/
theorem witness_SettingRegistersRoundTrip :
    let c : PortConfig := ⟨.r20, 8, 7, 15, false, 255, 255, 1⟩
    let on := entry .owned true true
    (c.InRange ∧ (c.withA 0x01001010).isSome = true ∧ (c.withB 0xFF01FFFF).isSome = true) ∧
      (State.reset.Ready ∧ (State.reset.port 0).link = .off ∧ (State.reset.port 0).config.withA 0x01001010 ≠ none ∧
        (State.reset.port 0).config.withB 0xFF01FFFF ≠ none) ∧
      (WindowEntry.reset.enable = false ∧ (WindowEntry.reset.withControl 0x1001).sizeCode.toNat ≤ 16 ∧
        (WindowEntry.reset.withControl 0x1001).baseAligned = true) ∧
      (on.enable = true ∧ on.withControl 0x30000 = { on with enable := false }) ∧ (1#32).extractLsb' 0 8 ≠ 0 ∧
      1 ≤ ((0x100#32).extractLsb' 8 7).toNat ∧ ((0x4000#32).extractLsb' 8 7).toNat ≤ 64 ∧
      (State.reset.request 0).state = .idle :=
  ⟨⟨⟨by decide, by decide, by decide, by decide, by decide⟩, by decide, by decide⟩, ⟨⟨rfl, rfl, rfl⟩, rfl, by decide, by decide⟩,
    by decide, by decide, by decide, by decide, by decide, rfl⟩

/-- The largest and the smallest value of each field, and one refused for each reason (the link state is OFF, but in the last). -/
theorem witness_ConfigurationWritesNeedAnOffPort :
    State.reset.Ready ∧ (State.reset.port 0).link = .off ∧
      (LinkRate.ofCode ((0xFF00F783#32).extractLsb' 0 3) = some .r20 ∧ ((0xFF00F783#32).extractLsb' 4 4).toNat = 8 ∧
        (0xFF00F783#32).extractLsb' 12 4 ≠ 0 ∧ (0xFF00F783#32).extractLsb' 24 8 ≠ 0) ∧
      (LinkRate.ofCode ((0x01001010#32).extractLsb' 0 3) = some .r2_5 ∧ ((0x01001010#32).extractLsb' 4 4).toNat = 1 ∧
        (0x01001010#32).extractLsb' 12 4 ≠ 0 ∧ (0x01001010#32).extractLsb' 24 8 ≠ 0) ∧
      4 ≤ ((0x01001014#32).extractLsb' 0 3).toNat ∧ ((0x01001000#32).extractLsb' 4 4).toNat = 0 ∧
      8 < ((0x01001090#32).extractLsb' 4 4).toNat ∧ (0x01000010#32).extractLsb' 12 4 = 0 ∧
      (0x00001010#32).extractLsb' 24 8 = 0 ∧ ((0x00010001#32).extractLsb' 0 8 ≠ 0 ∧ (0x00010001#32).extractLsb' 16 8 ≠ 0) ∧
      (0x00010000#32).extractLsb' 0 8 = 0 ∧ (0x00000001#32).extractLsb' 16 8 = 0 ∧ upPort.link ≠ .off :=
  ⟨⟨rfl, rfl, rfl⟩, by decide, by decide, by decide, by decide, by decide, by decide, by decide, by decide, by decide, by decide,
    by decide, by decide⟩

/-- A disabled entry: enabled with size code 16 over base 0, kept disabled off its alignment, refused at 17 and off its
alignment; an enabled entry: the word that disables it, and its own word. -/
theorem witness_WindowWritesPrepareEnableAndLock :
    let off : WindowEntry := { entry .owned true true with enable := false }
    let on := entry .owned true true
    (WindowEntry.reset.enable = false ∧ ((0x1001#32).extractLsb' 8 5).toNat = 16 ∧ (0x1001#32).getLsbD 0 = true ∧
      WindowEntry.reset.baseWord.toNat % (4096 * 2 ^ 16) = 0) ∧
    (off.enable = false ∧ ((0x1000#32).extractLsb' 8 5).toNat ≤ 16 ∧ (0x1000#32).getLsbD 0 = false) ∧
    16 < ((0x1100#32).extractLsb' 8 5).toNat ∧ off.baseWord.toNat % (4096 * 2 ^ 16) ≠ 0 ∧
    (on.enable = true ∧ on.withControl 0x30000 = { on with enable := false }) ∧
    on.withControl 0x30001 ≠ { on with enable := false } := by decide +kernel

theorem witness_SharedSettingWrites :
    State.reset.Ready ∧ (1#32).extractLsb' 0 8 ≠ 0 ∧ (0x100#32).extractLsb' 0 8 = 0 ∧
      (1 ≤ ((0x100#32).extractLsb' 8 7).toNat ∧ ((0x4000#32).extractLsb' 8 7).toNat ≤ 64) ∧
      ((0#32).extractLsb' 8 7).toNat = 0 ∧ 64 < ((0x4100#32).extractLsb' 8 7).toNat := ⟨⟨rfl, rfl, rfl⟩, by decide⟩

theorem witness_RequestFieldWritesNeedAnIdleSlot :
    (lawfulState .run none .pop).Ready ∧ ((lawfulState .run none .pop).request 0).state = .idle ∧
      ((lawfulState .run none .pop).request 1).state ≠ .idle := ⟨⟨rfl, rfl, rfl⟩, by decide, by decide⟩

theorem witness_CounterReadsClear : State.reset.Ready := ⟨rfl, rfl, rfl⟩

theorem witness_EnableStartsProbing :
    let deaf : Port := { offPort with carrier := false }
    (bench WindowEntry.reset offPort).Ready ∧ (offPort.link = .off ∧ offPort.carrier = true ∧ offPort.transmitter = none) ∧
      (bench WindowEntry.reset deaf).Ready ∧ (deaf.link = .off ∧ deaf.carrier = false) :=
  ⟨bench_ready _ _, by decide, bench_ready _ _, by decide⟩

theorem witness_ResumeAndAckAttentionAct :
    (bench WindowEntry.reset lostPort).Ready ∧ lostPort.link ≠ .off ∧ lostPort.queue = .held ∧ upPort.queue = .run ∧
      offPort.link = .off := ⟨bench_ready _ _, by decide⟩

/-- The hypotheses of FlushRemovesQueuedRecords and of DisableTearsThePortDown, with records of every source. -/
theorem witness_FlushAndDisable :
    let s := lawfulState .held none .pop
    s.Ready ∧ s.Lawful ∧ (s.port 0).link ≠ .off ∧ (s.port 0).priority ++ (s.port 0).normal ≠ [] :=
  ⟨⟨rfl, rfl, rfl⟩, lawfulState_lawful _ _ _ (.inl rfl), by decide, by decide⟩

/-- Table 5-2: an ENABLE that is IGNORED leaves an armed hunt armed, so that the 0x5A behind it completes the sync pair. -/
theorem test_ignored_enable_leaves_the_receiver :
    let s := bench WindowEntry.reset { upPort with receiver := .hunt true }
    let t := after (.enable 0) s
    ((t.port 0).receiver, (t.port 0).commandResult) = (.hunt true, .ignored) ∧
      ((after (.malformedFrame 0 [0x5A]) t).port 0).receiver = .header [] := by decide

theorem witness_PortCommandsIgnored :
    (bench WindowEntry.reset upPort).Ready ∧ upPort.link ≠ .off ∧ offPort.link = .off ∧ upPort.queue = .run ∧
      upPort.link ≠ .lost ∧ (0x10#32).toNat % 16 = 0 ∧ 6 < (7#32).toNat % 16 := ⟨bench_ready _ _, by decide⟩

/-- A request whose range ends at the last byte of the remote space; one byte further; length 0; length 17; no room. -/
theorem witness_SubmitAdmitsOrRefuses :
    let slot := fun (remote : Word) (length : BitVec 5) =>
      { RequestSlot.reset with remote := remote, length := length }
    let sound := fun (x : RequestSlot) =>
      1 ≤ x.length.toNat ∧ x.length.toNat ≤ 16 ∧ x.remote.toNat + x.length.toNat ≤ 2 ^ 32
    let s := fun q => (bench WindowEntry.reset q).setRequest 0 (slot 0xFFFFFFF0 16)
    (∀ q, (s q).Ready) ∧ (s upPort).request 0 = slot 0xFFFFFFF0 16 ∧ (slot 0xFFFFFFF0 16).state = .idle ∧
      sound (slot 0xFFFFFFF0 16) ∧ sound (slot 0 1) ∧ upPort.link ≠ .off ∧ (withNormal 15 upPort).poolCount < 16 ∧
      ¬ sound (slot 0xFFFFFFF1 16) ∧ ¬ sound (slot 0 0) ∧ ¬ sound (slot 0 17) ∧
      ¬ (withNormal 16 upPort).poolCount < 16 ∧ offPort.link = .off :=
  ⟨fun _ => ⟨rfl, rfl, rfl⟩, by decide⟩

theorem witness_CancelAndReleaseAct :
    let s := lawfulState .run none .pop
    s.Ready ∧ (s.request 1).state = .submitted ∧
      (∃ r ∈ (s.port 0).priority ++ (s.port 0).normal, r.source = .request 1 ∧ r.reserved = false) ∧
      ((s.setRequest 0 { RequestSlot.reset with state := .complete .ok }).request 0).state = .complete .ok :=
  ⟨⟨rfl, rfl, rfl⟩, by decide, by decide, by decide⟩

theorem witness_SlotCommandsIgnored :
    let s := lawfulState .run none .pop
    let outstanding := s.setPort 0 { s.port 0 with priority := [] }
    s.Ready ∧ (s.request 1).state ≠ .idle ∧ (s.request 0).state ≠ .submitted ∧
      (∀ r ∈ (outstanding.port 0).priority ++ (outstanding.port 0).normal, ¬ (r.source = .request 1 ∧ r.reserved = false)) ∧
      (s.request 0).state = .idle ∧ (0x20#32).toNat % 16 = 0 ∧ 3 < (4#32).toNat % 16 :=
  ⟨⟨rfl, rfl, rfl⟩, by decide, by decide, by decide, by decide, by decide, by decide⟩

/-- A masked kind; an enabled kind with 63 records, and with 64. -/
theorem witness_OfferIsMaskedWrittenOrLost :
    (eventsOf 63).Sound ∧ (eventsOf 64).Sound ∧ (eventsOf 63).mask.getLsbD (EventKind.writeFault.code - 1) = false ∧
      (eventsOf 63).mask.getLsbD (EventKind.flushed.code - 1) = true ∧ (eventsOf 63).records.length < 64 ∧
      (eventsOf 64).records.length = 64 :=
  ⟨⟨by decide, by decide, by decide, by decide⟩, ⟨by decide, by decide, by decide, by decide⟩, by decide, by decide,
    by decide, by decide⟩

theorem witness_PopRemovesTheHead :
    (State.reset.setEvents (eventsOf 1)).Ready ∧
      (eventsOf 1).records = ⟨⟨.linkUp, 0, .none, 0, .none⟩, 0, 0⟩ :: [] ∧ State.reset.events.records = [] ∧
      (0#32).toNat % 16 ≠ 1 := ⟨⟨rfl, rfl, rfl⟩, rfl, rfl, by decide⟩

theorem witness_SharedTimersRun :
    State.reset.resetAsserted = false ∧ (after .hardwareReset State.reset).resetAsserted = true ∧
      (eventsOf 1).holdoff = .running 9 ∧ (∀ e, State.reset.events.holdoff ≠ .running e) ∧
      (answeredState (.ready [1, 2, 3, 4] 9) 0).readSlot 2 = some ⟨⟨1, 0x10FFC, .four⟩, 0, 0, .ready [1, 2, 3, 4] 9⟩ ∧
      (answeredState (.failed .held 9) 0).readSlot 2 = some ⟨⟨1, 0x10FFC, .four⟩, 0, 0, .failed .held 9⟩ ∧
      ∀ slot, (lawfulState .run none .pop).readSlot 0 = some slot → slot.state = .pending :=
  ⟨rfl, rfl, rfl, fun _ h => (by cases h), rfl, rfl, fun _ h => (by cases h; rfl)⟩

theorem witness_HardwareResetAndRelease :
    (after .hardwareReset State.reset).resetAsserted = true ∧ State.reset.resetAsserted = false := ⟨rfl, rfl⟩

theorem witness_ChipResetKeepsTheSettings :
    State.reset.Ready ∧ (0x10#32).toNat % 16 ≠ 1 ∧ State.reset.chipResetDue = false ∧
      (after .chipReset State.reset).chipResetDue = true := ⟨⟨rfl, rfl, rfl⟩, by decide, rfl, rfl⟩

theorem witness_CompletionReachesTheProducer :
    let s := lawfulState .run none .pop
    (Leaving.refused .denied 3 = .refused .denied 3) ∧ (write4 0).source = .posted ∧
      (readRecord 0 0x20 .four).source = .read 0 ∧
      s.readSlot 0 = some ⟨⟨0, 0x10020, .four⟩, 0, 0x20, .pending⟩ ∧
      (requestRecord 1 submittedSlot).source = .request 1 ∧ (s.request 1).state = .submitted :=
  ⟨rfl, rfl, rfl, rfl, rfl, by decide⟩

/-- An UP port with a WRITE, or a READ of 16 bytes, as its oldest, and a second record behind it. -/
def answering (r : Record) (retry busy : Nat) : Port :=
  { upPort with window := [⟨r, 15, retry, busy⟩, ⟨write4 0x14, 0, 0, 0⟩], nextSeq := 1, resendRun := [] }

theorem witness_AnswerCompletesTheOldest :
    let q := answering (write4 0x10) 0 0
    let read := readRecord 0 0x20 .sixteen
    ((bench WindowEntry.reset q).port 0).link = .up ∧ ((bench WindowEntry.reset q).port 0).carrier = true ∧
      ((bench WindowEntry.reset q).port 0).window = ⟨write4 0x10, 15, 0, 0⟩ :: [⟨write4 0x14, 0, 0, 0⟩] ∧
      (write4 0x10).operation = .write ∧ read.operation = .read ∧ (List.replicate 16 (0 : Byte)).length = read.length ∧
      (List.replicate 16 (0 : Byte)).length ≤ 16 := by decide

/-- Below and at the busy limit, and below and at the retry limit; an expected sequence outstanding and one that is not. -/
theorem witness_BusyAndSequenceRefusals :
    let q := fun retry busy => answering (write4 0x10) retry busy
    (q 0 7).link = .up ∧ (q 0 7).carrier = true ∧ (q 0 7).backoff = none ∧
      (q 0 7).window = ⟨write4 0x10, 15, 0, 7⟩ :: [⟨write4 0x14, 0, 0, 0⟩] ∧ 7 < (q 0 7).config.busyLimit.toNat ∧
      (q 0 8).config.busyLimit.toNat ≤ 8 ∧ 2 < (q 2 0).config.retryLimit.toNat ∧ (q 3 0).config.retryLimit.toNat ≤ 3 ∧
      (0 : Seq) ∈ (q 0 0).window.map Sent.seq ∧ (1 : Seq) ∉ (q 0 0).window.map Sent.seq := by decide

/-- A LOST port; an UP port asked about a sequence that is not outstanding; an UP port in backoff, asked about its younger
record; a PROBING port and an IDENT with another sequence. -/
theorem witness_StaleResponsesAreCounted :
    let q := answering (write4 0x10) 0 1
    let b : Port := { q with backoff := some 9 }
    (lostPort.link ≠ .off ∧ lostPort.link ≠ .up ∧ lostPort.carrier = true) ∧
      (q.link = .up ∧ (1 : Seq) ∉ q.window.map Sent.seq) ∧
      (b.link = .up ∧ b.backoff ≠ none ∧ b.window = ⟨write4 0x10, 15, 0, 1⟩ :: [⟨write4 0x14, 0, 0, 0⟩] ∧ (0 : Seq) ≠ 15) ∧
      ¬ (waitingPort.link = .probing ∧ waitingPort.probeSeq = some 4) ∧ (RejectCause.busy ≠ .sequence) ∧
      (1 ≤ (1#8).toNat ∧ (8#8).toNat ≤ 8) ∧ (1 ≤ [(0 : Byte)].length ∧ (List.replicate 16 (0 : Byte)).length ≤ 16) := by
  decide

/-- A younger record answered with a run active and with none, below the retry limit and at it; and an oldest READ and an
oldest WRITE, each answered by the wrong frame. -/
theorem witness_OutOfOrderAndProtocolErrors :
    let q := fun retry => answering (write4 0x10) retry 0
    let read := readRecord 0 0x20 .four
    (∀ k, (q k).link = .up ∧ (q k).carrier = true ∧ (q k).backoff = none ∧ (q k).resendRun = [] ∧
      (q k).window = ⟨write4 0x10, 15, k, 0⟩ :: [⟨write4 0x14, 0, 0, 0⟩]) ∧
      (0 : Seq) ∈ [(⟨write4 0x14, 0, 0, 0⟩ : Sent)].map Sent.seq ∧ (0 : Seq) ≠ 15 ∧ RejectCause.busy ≠ .sequence ∧
      ({ q 0 with resendRun := [0] } : Port).resendRun ≠ [] ∧ 2 < (q 2).config.retryLimit.toNat ∧
      (q 3).config.retryLimit.toNat ≤ 3 ∧ (answering read 0 0).window.head?.map Sent.record = some read ∧
      read.operation = .read ∧ [(0 : Byte)].length ≠ read.length :=
  ⟨fun _ => ⟨rfl, rfl, rfl, rfl, rfl⟩, by decide⟩

theorem witness_IdentBringsTheLinkUp :
    waitingPort.link = .probing ∧ waitingPort.probeSeq = some 5 ∧ waitingPort.carrier = true ∧ 1 ≤ (1#8).toNat ∧
      (8#8).toNat ≤ 8 := by decide

theorem witness_AttentionFlagSetsTheLatch :
    upPort.link ≠ .off ∧ upPort.carrier = true ∧ 1 ≤ [(0 : Byte)].length ∧ (List.replicate 16 (0 : Byte)).length ≤ 16 ∧
      1 ≤ (1#8).toNat ∧ (8#8).toNat ≤ 8 := by decide

/-- A good frame of each kind, with the shortest and the longest DATA body and the smallest and the largest window. -/
theorem witness_StationFramesAreReceived :
    [StationBody.ack, .data [0], .data (List.replicate 16 0), .reject .sequence 15, .ident 0 0 1, .ident 0 0 8].all
      (fun b => (StationFrame.mk true 15 b).good) = true := by decide

/-- A check that fails by one bit; a sequence of 16; a DATA length of 0 and of 17; a kind of the bridge's own; windows 0 and 9;
causes 0 and 5; an expected sequence of 16. -/
theorem witness_DamagedFramesAreCounted :
    let allowed := fun (b0 b1 b2 : Byte) => b1.toNat < 16 ∧ (b0.toNat % 16 = 8 ∧ b2 = 0 ∨
      b0.toNat % 16 = 9 ∧ 1 ≤ b2.toNat ∧ b2.toNat ≤ 16 ∨ b0.toNat % 16 = 10 ∧ b2 = 2 ∨ b0.toNat % 16 = 11 ∧ b2 = 4)
    let f : StationFrame := ⟨false, 9, .ack⟩
    upPort.link ≠ .off ∧ upPort.carrier = true ∧ upPort.receiver = .hunt false ∧
      (f.good = true ∧ hiByte (crc f.headerAndBody) ++ (loByte (crc f.headerAndBody) ^^^ 1) ≠ crc f.headerAndBody) ∧
      ¬ allowed 8 16 0 ∧ ¬ allowed 9 15 0 ∧ ¬ allowed 9 15 17 ∧ ¬ allowed 3 0 0 ∧ allowed 0xF9 15 16 ∧
      ((0#8).toNat = 0 ∧ 8 < (9#8).toNat) ∧ ((0#8).toNat = 0 ∧ 4 < (5#8).toNat ∧ 16 ≤ (16#8).toNat) := by decide +kernel

/-- The arbiter's cases: busy, OFF, LOST, not due, in backoff; due; a run; a PRIORITY head with one place left in the window; a
NORMAL head; a window that is full; a RESERVED head. -/
theorem witness_ArbiterChoosesInOrder :
    let q := busyPort .run none
    let free : Port := { q with transmitter := none, resendRun := [] }
    let tight : Port := { free with effectiveWindow := 3 }
    let due : Port := { offPort with link := .probing, phase := .due }
    let normal : Port := { tight with priority := [] }
    let closed : Port := { tight with effectiveWindow := 2 }
    let reserved : Port := { normal with normal := [reservedRecord 0 (.one 0)] }
    (∀ x ∈ [q, free, tight, due, normal, closed, reserved, offPort, { q with transmitter := none }], x.QueueSound) ∧
      q.transmitter ≠ none ∧ offPort.link = .off ∧ lostPort.link = .lost ∧
      (waitingPort.link = .probing ∧ waitingPort.phase ≠ .due) ∧
      (due.transmitter = none ∧ due.link = .probing ∧ due.phase = .due) ∧
      (free.link = .up ∧ free.backoff = none ∧ q.resendRun = 5 :: []) ∧
      (tight.priority = ⟨.priority, .request 1, .read, 0x40, 4, [], false⟩ :: [] ∧
        tight.window.length < tight.effectiveWindow.toNat) ∧
      (normal.priority = [] ∧ normal.normal = readRecord 0 0x20 .four :: [] ∧ normal.queue = .run) ∧
      ¬ closed.window.length < closed.effectiveWindow.toNat ∧
      (reserved.normal = reservedRecord 0 (.one 0) :: [] ∧ (reservedRecord 0 (.one 0)).reserved = true) := by
  refine ⟨fun x hx => ?_, by decide⟩
  simp only [List.mem_cons, List.not_mem_nil, or_false] at hx
  rcases hx with rfl | rfl | rfl | rfl | rfl | rfl | rfl | rfl | rfl <;>
    refine ⟨?_, ?_, ?_, ?_, ?_, ?_, ?_, ?_, ?_, ?_, ?_⟩ <;> decide

/-- A free transmitter; the end of a probe in SENDING; the end of the oldest's frame; the end of a younger record's frame. -/
theorem witness_TransmissionEndIsReported :
    let sending : Port := { waitingPort with phase := .sending, transmitter := some ⟨.probe 5, false⟩ }
    let q := fun (n : Seq) => { answering (write4 0x10) 0 0 with transmitter := some ⟨.write n 0x10 [1, 2, 3, 4], false⟩ }
    offPort.transmitter = none ∧ sending.transmitter = some ⟨.probe 5, false⟩ ∧
      (sending.link = .probing ∧ sending.phase = .sending) ∧
      ((q 15).transmitter = some ⟨.write 15 0x10 [1, 2, 3, 4], false⟩ ∧ (q 15).backoff = none ∧
        (q 15).window.head?.map Sent.seq = some (BridgeFrame.write 15 0x10 [1, 2, 3, 4]).seq) ∧
      (q 0).window.head?.map Sent.seq ≠ some (BridgeFrame.write 0 0x10 [1, 2, 3, 4]).seq := by decide

theorem witness_SequencerTimersExpire :
    let q := fun retry => { answering (write4 0x10) retry 0 with responseTimer := some 9 }
    (q 2).responseTimer ≠ none ∧ (q 2).window = ⟨write4 0x10, 15, 2, 0⟩ :: [⟨write4 0x14, 0, 0, 0⟩] ∧
      2 < (q 2).config.retryLimit.toNat ∧ (q 3).config.retryLimit.toNat ≤ 3 ∧ upPort.responseTimer = none ∧
      ({ upPort with backoff := some 9 } : Port).backoff ≠ none ∧ upPort.backoff = none := by decide

theorem witness_ProbesFallDueAndFail :
    let resting : Port := { waitingPort with phase := .resting }
    (waitingPort.probeTimer ≠ none ∧ waitingPort.link = .probing ∧ waitingPort.phase = .waiting) ∧
      (resting.probeTimer ≠ none ∧ resting.link = .probing ∧ resting.phase = .resting) ∧
      (lostPort.probeTimer ≠ none ∧ lostPort.link = .lost) ∧ (bench WindowEntry.reset lostPort).Ready ∧
      offPort.probeTimer = none := ⟨by decide, by decide, by decide, bench_ready _ _, by decide⟩

theorem witness_CarrierChanges :
    upPort.carrier = true ∧ upPort.link = .up ∧ waitingPort.carrier = true ∧ waitingPort.link ≠ .up ∧
      ({ upPort with carrier := false } : Port).carrier = false := by decide

end Sys2Proof.Tests
end

section
/-! PROOF. What one happening can do to one port, said once as a relation between ports: the moves that the line and the timers
make (`Port.LineMove`) and those that only a host access makes (`Port.HostMove`). Every law of a port is then a matter of one
case per move. -/

namespace Sys2Proof.Machine

/-! ## The moves -/

/-- A port once the outcome of a record of its own has reached its posted-write counters (R16). -/
def Port.counted (q : Port) (r : Record) (l : Leaving) : Port := if r.source = .posted then q.countPosted l else q

/-- The moves that leave the lanes, the send window, the sequencer, the posted-write counters, the queue state, the link state
and the configuration alone. -/
inductive Port.AsideMove (q : Port) : Port → Prop where
  | receive (r : Receiver) : q.listening = true → AsideMove q { q with receiver := r }
  | loseCarrier : AsideMove q (q.dropPartial.setCarrier false)
  | regainCarrier : AsideMove q (q.setCarrier true)
  | malformed : AsideMove q q.countMalformed
  | crcError : AsideMove q q.countCrcError
  | stale : AsideMove q q.countStale
  | attention : q.link ≠ .off → AsideMove q q.latchAttention
  | failProbe (now : Nat) : q.probeTimes .probing .waiting = true → AsideMove q (q.failProbe now)
  | probeFallsDue (now : Nat) : q.probeTimes .probing .resting = true → AsideMove q (q.probeFallsDue now)
  | result (r : CommandResult) : AsideMove q (q.withResult r)
  | clearAttention : q.link ≠ .off → AsideMove q q.clearAttention
  | clearOnRead (r : PortReg) : AsideMove q (q.clearOnRead r)
  | mirrorLost : AsideMove q { q with mirrorLost := satSucc16 q.mirrorLost }

/-- The moves that a happening of the line or of time makes, whatever access is in progress. -/
inductive Port.LineMove (q : Port) : Port → Prop where
  | aside {q' : Port} : q.AsideMove q' → LineMove q q'
  | arbitrate : LineMove q q.arbitrate
  | hold : q.link = .up → LineMove q q.hold
  | lose (cause : Cause) (now : Nat) : q.link = .up → LineMove q (q.lost cause now)
  | complete (w : Sent) (rest : List Sent) (l : Leaving) (now : Nat) : q.window = w :: rest →
      LineMove q ((q.dropOldest.counted w.record l).afterCompletion w.seq now)
  | exhaust (w : Sent) (rest : List Sent) (cause : Cause) (now : Nat) : q.window = w :: rest →
      LineMove q ((q.dropOldest.counted w.record (.failed cause w.seq)).lost cause now)
  | retry (w : Sent) (rest : List Sent) : q.window = w :: rest → w.retry < q.config.retryLimit.toNat → q.backoff = none →
      LineMove q q.raiseRetry.beginRun
  | beginBackoff (w : Sent) (rest : List Sent) (now : Nat) : q.window = w :: rest → w.busy < q.config.busyLimit.toNat →
      LineMove q (q.beginBackoff now)
  | endFrame (x : Transmission) (now : Nat) : q.transmitter = some x →
      LineMove q (Port.reportEnd { q with transmitter := none } x.frame now)
  | stopTimer : LineMove q { q with responseTimer := none }
  | endBackoff : LineMove q (Port.beginRun { q with backoff := none })
  | reprobe (now : Nat) : q.link = .lost → LineMove q (q.enterProbing now)
  | acceptIdent (seq : Seq) (cls : BitVec 16) (revision window : Byte) : q.link = .probing → q.probeSeq = some seq →
      LineMove q (q.acceptIdent seq cls revision window)

/-- Any number of moves of the line and of time, one after the other. -/
abbrev Port.LineMoves : Port → Port → Prop := Relation.ReflTransGen Port.LineMove

/-- The posted-write counters once the records `rs` have been removed (R15, R16). -/
def Port.dropPosted (q : Port) (rs : List Record) : Port :=
  { q with postedDrop := q.postedDrop + BitVec.ofNat 32 (rs.filter (fun r => r.source == .posted)).length }

/-- The moves that a host access makes, which come only while no access is in progress. -/
inductive Port.HostMove (q : Port) : Port → Prop where
  | configure (c : PortConfig) (v : Word) : q.link = .off → q.config.withA v = some c ∨ q.config.withB v = some c →
      HostMove q { q with config := c }
  | enable (now : Nat) : q.link = .off →
      HostMove q ((Port.enterProbing { q with nextSeq := 0, receiver := .hunt false } now).withResult .done)
  | disable : q.link ≠ .off → HostMove q (q.tornDown.dropPosted q.allRecords)
  | resume : q.link ≠ .off → q.queue = .held → HostMove q { q with queue := .run, commandResult := .done }
  | flush : q.link ≠ .off → HostMove q ((q.flushLanes.withResult .done).dropPosted q.queuedRecords)
  | join (r : Record) : q.refusal r.source = none → r.source ≠ .posted → r.reserved = false → HostMove q (q.join r)
  | joinPosted (remote : Word) (d : WriteData) : q.refusal .posted = none → HostMove q (q.joinPosted (postedRecord remote d))
  | withdraw (n : SlotId) : HostMove q (q.withdraw n)

/-- What a host access can make of a port: moves of the line's kind, or one of its own and then the arbiter's choice. -/
def Port.HostTurn (q q' : Port) : Prop :=
  q.LineMoves q' ∨ ∃ x, q.HostMove x ∧ (q' = x ∨ q' = x.arbitrate)

/-! ## The moves that stand aside -/

/-- The parts of a port that the laws of its queue and sequencer speak of, and the link state. -/
def Port.core (q : Port) :
    (List Record × List Record × Word × Word × Word) × (List Sent × Seq × List Seq × Option Nat × Option Nat) ×
      (LinkState × BitVec 4 × QueueState × PortConfig) :=
  ((q.priority, q.normal, q.postedIn, q.postedDone, q.postedDrop),
    (q.window, q.nextSeq, q.resendRun, q.backoff, q.responseTimer), (q.link, q.effectiveWindow, q.queue, q.config))

theorem Port.dropPartial_core (q : Port) : q.dropPartial.core = q.core := by
  unfold Port.dropPartial
  split
  · rfl
  · split <;> rfl

theorem Port.probeFallsDue_core (q : Port) (now : Nat) : (q.probeFallsDue now).core = q.core := by
  unfold Port.probeFallsDue
  split <;> rfl

/-- The entry to PROBING changes the link state alone among them (R67, R76). -/
theorem Port.enterProbing_core (q : Port) (now : Nat) : (q.enterProbing now).core = Port.core { q with link := .probing } :=
  Port.probeFallsDue_core _ now

theorem Port.clearOnRead_core (q : Port) (r : PortReg) : (q.clearOnRead r).core = q.core := by
  cases r <;> rfl

theorem Port.AsideMove.core {q q' : Port} (h : q.AsideMove q') : q'.core = q.core := by
  cases h with
  | loseCarrier => exact q.dropPartial_core
  | probeFallsDue now _ => exact q.probeFallsDue_core now
  | clearOnRead r => exact q.clearOnRead_core r
  | _ => rfl

/-! ## Steadiness: the laws of the queue with what they need of the link -/

/-- Nothing is outstanding and the sequencer is idle (Table 3-1). -/
structure Port.Quiet (q : Port) : Prop where
  window : q.window = []
  run : q.resendRun = []
  backoff : q.backoff = none
  timer : q.responseTimer = none

/-- The laws of the queue and the sequencer, with the two laws of the link that keep them: a configuration in range (R97), and
a sequencer that is idle outside UP (R59). -/
structure Port.Steady (q : Port) : Prop where
  sound : q.QueueSound
  config : q.config.InRange
  quiet : q.link ≠ .up → q.Quiet

theorem State.Lawful.steady {s : State} (h : s.Lawful) (p : PortId) : (s.port p).Steady where
  sound := h.queues p
  config := (h.links p).config
  quiet hl := by
    obtain ⟨hw, hr, hb, ht⟩ := (h.links p).quiet hl
    exact ⟨hw, hr, hb, ht⟩

/-- A port with an outstanding record is UP. -/
theorem Port.Steady.up_of_window {q : Port} (h : q.Steady) {w : Sent} {rest : List Sent} (hw : q.window = w :: rest) :
    q.link = .up := by
  by_contra hl
  simp [(h.quiet hl).window] at hw

theorem Port.Steady.of_core {q q' : Port} (h : q.Steady) (e : q'.core = q.core) : q'.Steady := by
  simp only [Port.core, Prod.mk.injEq] at e
  obtain ⟨⟨e1, e2, -, -, -⟩, ⟨e3, e4, e5, e6, e7⟩, e8, e9, -, e10⟩ := e
  obtain ⟨hs, hc, hq⟩ := h
  refine ⟨?_, by rwa [e10], fun hl => ?_⟩
  · have hp : q'.poolCount = q.poolCount := by simp [Port.poolCount, e1, e2, e3]
    constructor
    · rw [hp]; exact hs.pool
    · rw [e1]; exact hs.priorityLane
    · rw [e2]; exact hs.normalLane
    · rw [e3]; exact hs.issued
    · rw [e3, e4]; exact hs.sequences
    · rw [e3, e9]; exact hs.windowBound
    · rw [e3, e10]; exact hs.counts
    · rw [e3]; exact hs.younger
    · rw [e3, e5]; exact hs.run
    · rw [e3, e5, e6, e7]; exact hs.backoff
    · rw [e3, e7]; exact hs.timer
  · obtain ⟨h1, h2, h3, h4⟩ := hq (e8 ▸ hl)
    exact ⟨e3.trans h1, e5.trans h2, e6.trans h3, e7.trans h4⟩

/-! ### Sequences of a window (R40) -/

@[simp] theorem consecutiveBelow_zero (n : Seq) : consecutiveBelow n 0 = [] := rfl

/-- Oldest first: the oldest of `k + 1` records lies `k + 1` below, and the others are the `k` below. -/
theorem consecutiveBelow_succ (n : Seq) (k : Nat) :
    consecutiveBelow n (k + 1) = (n - BitVec.ofNat 4 (k + 1)) :: consecutiveBelow n k := by
  unfold consecutiveBelow
  rw [List.range_succ_eq_map]
  simp only [List.map_cons, List.map_map, Nat.sub_zero, List.cons.injEq, true_and]
  apply List.map_congr_left
  intro i _
  simp [Nat.succ_eq_add_one]

/-- The next record issued takes the youngest place. -/
theorem consecutiveBelow_next (n : Seq) (k : Nat) : consecutiveBelow (n + 1) (k + 1) = consecutiveBelow n k ++ [n] := by
  unfold consecutiveBelow
  rw [List.range_succ, List.map_append]
  congr 1
  · apply List.map_congr_left
    intro i hi
    have hik := List.mem_range.1 hi
    have hsucc : k + 1 - i = (k - i) + 1 := by omega
    rw [hsucc, BitVec.ofNat_add]
    exact add_sub_add_right_eq_sub n _ 1
  · simp

/-! ### The parts of the laws that a removal keeps -/

/-- The laws of a port's lanes, its pool and its window's records, without those of the sequencer. -/
structure Port.LanesSound (q : Port) : Prop where
  pool : q.poolCount ≤ 16
  priorityLane : ∀ r ∈ q.priority, r.lane = .priority ∧ r.reserved = false
  normalLane : ∀ r ∈ q.normal, r.lane = .normal
  issued : ∀ w ∈ q.window, w.record.reserved = false
  window : q.effectiveWindow.toNat ≤ 8

theorem Port.QueueSound.lanes {q : Port} (h : q.QueueSound) : q.LanesSound :=
  ⟨h.pool, h.priorityLane, h.normalLane, h.issued, h.windowBound.2⟩

/-- An idle sequencer asks nothing beyond the lanes. -/
theorem Port.LanesSound.sound {q : Port} (h : q.LanesSound) (k : q.Quiet) : q.QueueSound := by
  obtain ⟨hw, hr, hb, ht⟩ := k
  refine ⟨h.pool, h.priorityLane, h.normalLane, h.issued, ?_, ⟨?_, h.window⟩, ?_, ?_, ?_, ?_, ?_⟩ <;> simp [hw, hr, hb, ht]

/-- Fewer records in the same lanes, and no more outstanding, keep the lanes' laws. -/
theorem Port.LanesSound.sub {q q' : Port} (h : q.LanesSound) (hp : q'.priority.Sublist q.priority)
    (hn : q'.normal.Sublist q.normal) (hw : q'.window.Sublist q.window) (he : q'.effectiveWindow.toNat ≤ 8) :
    q'.LanesSound where
  pool := by
    have h1 := hp.length_le
    have h2 := hn.length_le
    have h3 := hw.length_le
    have h4 := h.pool
    unfold Port.poolCount at *
    omega
  priorityLane r hr := h.priorityLane r (hp.subset hr)
  normalLane r hr := h.normalLane r (hn.subset hr)
  issued w hw' := h.issued w (hw.subset hw')
  window := he

end Sys2Proof.Machine
end

section
/-! PROOF. Every move of a port keeps its queue and sequencer lawful (`Port.Steady`). -/

namespace Sys2Proof.Machine

/-! ## The arbiter -/

/-- The issue of a record taken from the lanes: it becomes the youngest, with the next sequence and zero counts (R13, R41). -/
theorem Port.Steady.issue {q : Port} (h : q.Steady) {r : Record} {ps ns : List Record} (hr : r.reserved = false)
    (hroom : q.window.length < q.effectiveWindow.toNat) (hb : q.backoff = none) (hl : q.link = .up)
    (hp : ps.Sublist q.priority) (hn : ns.Sublist q.normal)
    (hlen : ps.length + ns.length + 1 = q.priority.length + q.normal.length) :
    (Port.issue { q with priority := ps, normal := ns } r).Steady where
  config := h.config
  quiet hne := absurd hl hne
  sound := by
    have hs := h.sound
    constructor
    · have := hs.pool
      simp only [Port.poolCount, Port.issue, List.length_append, List.length_singleton] at *
      omega
    · exact fun x hx => hs.priorityLane x (hp.subset hx)
    · exact fun x hx => hs.normalLane x (hn.subset hx)
    · simp only [Port.issue, List.mem_append, List.mem_singleton]
      rintro w (hw | rfl)
      · exact hs.issued w hw
      · exact hr
    · simp only [Port.issue, List.map_append, hs.sequences, List.map_cons, List.map_nil, List.length_append,
        List.length_singleton]
      exact (consecutiveBelow_next _ _).symm
    · simp only [Port.issue, List.length_append, List.length_singleton]
      exact ⟨hroom, hs.windowBound.2⟩
    · simp only [Port.issue, List.mem_append, List.mem_singleton]
      rintro w (hw | rfl)
      · exact hs.counts w hw
      · exact ⟨Nat.zero_le _, Nat.zero_le _⟩
    · intro w hw
      cases hwin : q.window with
      | nil => simp [Port.issue, hwin] at hw
      | cons x rest =>
        simp only [Port.issue, hwin, List.cons_append, List.tail_cons, List.mem_append, List.mem_singleton] at hw
        obtain hw | rfl := hw
        · exact hs.younger w (by rwa [hwin])
        · exact ⟨rfl, rfl⟩
    · intro n hn'
      simp only [Port.issue, List.map_append, List.mem_append]
      exact .inl (hs.run n hn')
    · simp [Port.issue, hb]
    · simp [Port.issue]

/-- The resend of a record shortens the run and leaves the window (R45). -/
theorem Port.Steady.beginResend {q : Port} (h : q.Steady) (w : Sent) : (q.beginResend w).Steady where
  config := h.config
  quiet hl := by
    obtain ⟨hw, hr, hb, ht⟩ := h.quiet hl
    exact ⟨hw, by simp [Port.beginResend, hr], hb, ht⟩
  sound :=
    { h.sound with
      run := fun n hn => h.sound.run n (List.mem_filter.1 hn).1
      backoff := fun hb => by
        obtain ⟨h1, h2, h3⟩ := h.sound.backoff hb
        exact ⟨h1, by simp [Port.beginResend, h2], h3⟩ }

theorem Port.Steady.arbitrate {q : Port} (h : q.Steady) : q.arbitrate.Steady := by
  obtain e | ⟨-, -, -, w, -, e⟩ | ⟨-, -, -, e⟩ | ⟨-, hl, hb, -, hroom, r, rest, hq, hr, e⟩ |
    ⟨-, hl, hb, -, hroom, -, r, rest, hq, hr, e⟩ := q.arbitrate_cases <;> rw [e]
  · exact h
  · exact h.beginResend w
  · exact h.of_core rfl
  · exact h.issue hr hroom hb hl (by rw [hq]; exact List.sublist_cons_self _ _) (List.Sublist.refl _) (by simp [hq]; omega)
  · exact h.issue hr hroom hb hl (List.Sublist.refl _) (by rw [hq]; exact List.sublist_cons_self _ _) (by simp [hq]; omega)

/-! ## The hold and the loss of the link -/

theorem Port.hold_normal_sublist (q : Port) : q.hold.normal.Sublist q.normal := List.filter_sublist

theorem Port.Steady.hold {q : Port} (h : q.Steady) : q.hold.Steady where
  config := h.config
  quiet hl := by
    obtain ⟨hw, hr, hb, ht⟩ := h.quiet hl
    exact ⟨hw, hr, hb, ht⟩
  sound :=
    have lanes := h.sound.lanes.sub (q' := q.hold) (List.Sublist.refl _) q.hold_normal_sublist (List.Sublist.refl _)
      h.sound.lanes.window
    { h.sound with pool := lanes.pool, normalLane := lanes.normalLane }

/-- The window's records go back to the lanes their fields name, so that the pool and the lanes stay as they must (R14). -/
theorem Port.LanesSound.returnWindow {q : Port} (h : q.LanesSound) : q.returnWindow.LanesSound where
  pool := by
    have hsplit : ∀ l : List Record, (l.filter (fun r => r.lane == .priority)).length +
        (l.filter (fun r => r.lane == .normal)).length = l.length := by
      intro l
      induction l with
      | nil => rfl
      | cons r l ih => cases hr : r.lane <;> simp [hr] <;> omega
    have := hsplit (q.window.map Sent.returned)
    have := h.pool
    simp only [Port.poolCount, Port.returnWindow, List.length_append, List.length_map, List.length_nil] at *
    omega
  priorityLane r hr := by
    simp only [Port.returnWindow, List.mem_append, List.mem_filter, List.mem_map, beq_iff_eq] at hr
    obtain ⟨⟨w, hw, rfl⟩, hl⟩ | hr := hr
    · exact ⟨hl, h.issued w hw⟩
    · exact h.priorityLane r hr
  normalLane r hr := by
    simp only [Port.returnWindow, List.mem_append, List.mem_filter, beq_iff_eq] at hr
    obtain ⟨-, hl⟩ | hr := hr
    · exact hl
    · exact h.normalLane r hr
  issued w hw := by simp [Port.returnWindow] at hw
  window := h.window

theorem Port.lost_quiet (q : Port) (cause : Cause) (now : Nat) : (q.lost cause now).Quiet := ⟨rfl, rfl, rfl, rfl⟩

/-- The loss of a link asks only for sound lanes, and leaves a lawful port. -/
theorem Port.LanesSound.lost {q : Port} (h : q.LanesSound) (hc : q.config.InRange) (cause : Cause) (now : Nat) :
    (q.lost cause now).Steady where
  config := hc
  quiet _ := q.lost_quiet cause now
  sound := (h.returnWindow.sub (q' := q.lost cause now) (List.Sublist.refl _) List.filter_sublist (List.Sublist.refl _)
    h.window).sound (q.lost_quiet cause now)

/-! ## Completion and exhaustion of the oldest -/

/-- An outcome changes the posted-write counters alone. -/
theorem Port.counted_eq (q : Port) (r : Record) (l : Leaving) : ∃ done drop,
    q.counted r l = { q with postedDone := done, postedDrop := drop } := by
  unfold Port.counted
  split
  · cases l <;> exact ⟨_, _, rfl⟩
  · exact ⟨_, _, rfl⟩

theorem Port.LanesSound.dropOldest {q : Port} (h : q.LanesSound) (r : Record) (l : Leaving) :
    (q.dropOldest.counted r l).LanesSound := by
  obtain ⟨done, drop, e⟩ := q.dropOldest.counted_eq r l
  rw [e]
  exact h.sub (List.Sublist.refl _) (List.Sublist.refl _) (List.tail_sublist _) h.window

/-- The oldest leaves: the others keep their sequences, and none of them has been retried (R56, R61). -/
theorem Port.Steady.complete {q : Port} (h : q.Steady) {w : Sent} {rest : List Sent} (hw : q.window = w :: rest) (l : Leaving)
    (now : Nat) : ((q.dropOldest.counted w.record l).afterCompletion w.seq now).Steady := by
  have hl := h.up_of_window hw
  have hs := h.sound
  have lanes := hs.lanes.dropOldest w.record l
  obtain ⟨done, drop, e⟩ := q.dropOldest.counted_eq w.record l
  rw [e] at lanes ⊢
  have hwin : q.dropOldest.window = rest := by simp [Port.dropOldest, hw]
  have hseq : rest.map Sent.seq = consecutiveBelow q.nextSeq rest.length := by
    have := hs.sequences
    rw [hw, List.map_cons, List.length_cons, consecutiveBelow_succ] at this
    exact (List.cons.inj this).2
  have hnew : ∀ x ∈ rest, x.retry = 0 ∧ x.busy = 0 := fun x hx => hs.younger x (by rw [hw]; exact hx)
  have hbound : rest.length ≤ q.effectiveWindow.toNat := by
    have := hs.windowBound.1
    rw [hw, List.length_cons] at this
    omega
  have hrun : ∀ n ∈ q.resendRun.filter (· != w.seq), n ∈ rest.map Sent.seq := by
    intro n hn
    obtain ⟨hn, hne⟩ := List.mem_filter.1 hn
    have := hs.run n hn
    simp only [hw, List.map_cons, List.mem_cons] at this
    exact this.resolve_left (by simpa using hne)
  -- what the sequencer's part of the completion leaves of the port, in each of its two cases
  have hafter : ∀ (run : List Seq) (x : Port), (∀ n ∈ run, n ∈ rest.map Sent.seq) →
      x = { q.dropOldest with
        postedDone := done, postedDrop := drop, resendRun := run, backoff := none
        responseTimer := if rest.isEmpty then none else some (q.config.timeoutEnd now) } → x.Steady := by
    rintro run x hrun rfl
    refine ⟨⟨lanes.pool, lanes.priorityLane, lanes.normalLane, lanes.issued, ?_, ?_, ?_, ?_, ?_, ?_, ?_⟩, h.config,
      fun hne => absurd hl hne⟩
    · rw [hwin]; exact hseq
    · rw [hwin]; exact ⟨hbound, hs.windowBound.2⟩
    · rw [hwin]
      intro x hx
      obtain ⟨h1, h2⟩ := hnew x hx
      rw [h1, h2]
      exact ⟨Nat.zero_le _, Nat.zero_le _⟩
    · rw [hwin]
      exact fun x hx => hnew x (List.mem_of_mem_tail hx)
    · rw [hwin]; exact hrun
    · simp
    · rw [hwin]
      cases rest <;> simp
  by_cases hb : q.backoff = none
  · refine hafter _ _ hrun ?_
    simp [Port.afterCompletion, Port.dropOldest, hw, hb]
  · refine hafter (rest.map Sent.seq) _ (fun n hn => hn) ?_
    simp [Port.afterCompletion, Port.beginRun, Port.dropOldest, hw, Option.isSome_iff_ne_none, hb]

/-! ## Resend runs, backoff and the timers -/

/-- The oldest with its counts raised within their limits, and any run and timer a lawful window allows (R46, R54, R56). -/
theorem Port.Steady.oldest {q : Port} (h : q.Steady) {w x : Sent} {rest : List Sent} (hw : q.window = w :: rest)
    (hrec : x.record = w.record) (hseq : x.seq = w.seq) (hretry : x.retry ≤ q.config.retryLimit.toNat)
    (hbusy : x.busy ≤ q.config.busyLimit.toNat) {run : List Seq} {backoff timer : Option Nat}
    (hrun : ∀ n ∈ run, n ∈ q.window.map Sent.seq) (hback : backoff.isSome → run = [] ∧ timer = none) :
    Port.Steady { q with window := x :: rest, resendRun := run, backoff := backoff, responseTimer := timer } := by
  have hs := h.sound
  have hmem : ∀ y ∈ x :: rest, y = x ∨ y ∈ q.window := by
    intro y hy
    obtain rfl | hy := List.mem_cons.1 hy
    · exact .inl rfl
    · exact .inr (by rw [hw]; exact List.mem_cons_of_mem _ hy)
  have hlen : (x :: rest).length = q.window.length := by rw [hw]; rfl
  have hseqs : (x :: rest).map Sent.seq = q.window.map Sent.seq := by rw [hw, List.map_cons, List.map_cons, hseq]
  refine ⟨⟨?_, hs.priorityLane, hs.normalLane, ?_, ?_, ?_, ?_, ?_, ?_, ?_, ?_⟩, h.config,
    fun hne => absurd (h.up_of_window hw) hne⟩
  · have := hs.pool
    simp only [Port.poolCount, hlen] at *
    exact this
  · intro y hy
    obtain rfl | hy := hmem y hy
    · rw [hrec]; exact hs.issued w (by rw [hw]; exact List.mem_cons_self ..)
    · exact hs.issued y hy
  · rw [hseqs, hlen]; exact hs.sequences
  · rw [hlen]; exact hs.windowBound
  · intro y hy
    obtain rfl | hy := hmem y hy
    · exact ⟨hretry, hbusy⟩
    · exact hs.counts y hy
  · intro y hy
    exact hs.younger y (by rw [hw]; exact hy)
  · rw [hseqs]; exact hrun
  · exact fun hb => ⟨List.cons_ne_nil _ _, hback hb⟩
  · exact fun _ => List.cons_ne_nil _ _

theorem Port.Steady.retry {q : Port} (h : q.Steady) {w : Sent} {rest : List Sent} (hw : q.window = w :: rest)
    (hlim : w.retry < q.config.retryLimit.toNat) (hb : q.backoff = none) : q.raiseRetry.beginRun.Steady := by
  have hc := h.sound.counts w (by rw [hw]; exact List.mem_cons_self ..)
  have := h.oldest hw (x := { w with retry := w.retry + 1 }) (run := q.window.map Sent.seq) (backoff := none)
    (timer := q.responseTimer) rfl rfl hlim hc.2 (fun n hn => hn) (by simp)
  simpa [Port.raiseRetry, Port.beginRun, hw, hb] using this

theorem Port.Steady.beginBackoff {q : Port} (h : q.Steady) {w : Sent} {rest : List Sent} (hw : q.window = w :: rest)
    (hlim : w.busy < q.config.busyLimit.toNat) (now : Nat) : (q.beginBackoff now).Steady := by
  have hc := h.sound.counts w (by rw [hw]; exact List.mem_cons_self ..)
  have := h.oldest hw (x := { w with busy := w.busy + 1 }) (run := []) (backoff := some (q.config.backoffEnd now))
    (timer := none) rfl rfl hc.1 hlim (by simp) (by simp)
  simpa [Port.beginBackoff, hw] using this

theorem Port.Steady.stopTimer {q : Port} (h : q.Steady) : Port.Steady { q with responseTimer := none } where
  config := h.config
  quiet hl := by
    obtain ⟨hw, hr, hb, -⟩ := h.quiet hl
    exact ⟨hw, hr, hb, rfl⟩
  sound :=
    { h.sound with
      backoff := fun hb => by
        obtain ⟨h1, h2, -⟩ := h.sound.backoff hb
        exact ⟨h1, h2, rfl⟩
      timer := by simp }

theorem Port.Steady.endBackoff {q : Port} (h : q.Steady) : (Port.beginRun { q with backoff := none }).Steady where
  config := h.config
  quiet hl := by
    obtain ⟨hw, -, -, ht⟩ := h.quiet hl
    exact ⟨hw, by simp [Port.beginRun, hw], rfl, ht⟩
  sound :=
    { h.sound with
      run := fun n hn => hn
      backoff := by simp [Port.beginRun] }

/-- The end of a frame starts the response timer only for an outstanding oldest, outside backoff (R27, R43). -/
theorem Port.Steady.endFrame {q : Port} (h : q.Steady) (f : BridgeFrame) (now : Nat) :
    (Port.reportEnd { q with transmitter := none } f now).Steady := by
  unfold Port.reportEnd
  split
  · split
    · exact h.of_core rfl
    · exact h.of_core rfl
  · split
    · rename_i hold
      simp only [Bool.and_eq_true, Option.isNone_iff_eq_none] at hold
      obtain ⟨hold, hb⟩ := hold
      have hne : q.window ≠ [] := by
        intro hw
        simp [Port.oldestIs, hw] at hold
      refine ⟨{ h.sound with backoff := ?_, timer := fun _ => hne }, h.config, fun hl => absurd (h.quiet hl).window hne⟩
      simp [hb]
    · exact h.of_core rfl

/-! ## The link controller -/

theorem PortConfig.effective_le {c : PortConfig} (h : c.InRange) (a : BitVec 4) : (c.effective a).toNat ≤ 8 := by
  have := h.windowLimit.2
  unfold PortConfig.effective
  split <;> omega

/-- A port whose sequencer is idle stays lawful when its link state, its next sequence and its effective window change. -/
theorem Port.Steady.relink {q q' : Port} (h : q.Steady) (hq : q.Quiet) (hp : q'.priority = q.priority)
    (hn : q'.normal = q.normal) (hc : q'.config.InRange) (he : q'.effectiveWindow.toNat ≤ 8)
    (hs : (q'.window, q'.resendRun, q'.backoff, q'.responseTimer) = (q.window, q.resendRun, q.backoff, q.responseTimer)) :
    q'.Steady := by
  simp only [Prod.mk.injEq] at hs
  obtain ⟨e1, e2, e3, e4⟩ := hs
  have hq' : q'.Quiet := ⟨e1.trans hq.window, e2.trans hq.run, e3.trans hq.backoff, e4.trans hq.timer⟩
  have lanes := h.sound.lanes.sub (q' := q') (by rw [hp]) (by rw [hn]) (by rw [e1]) he
  exact ⟨lanes.sound hq', hc, fun _ => hq'⟩

theorem Port.Steady.enterProbing {q : Port} (h : q.Steady) (hl : q.link ≠ .up) (now : Nat) : (q.enterProbing now).Steady := by
  refine Port.Steady.of_core (q := { q with link := .probing }) ?_ (q.enterProbing_core now)
  exact h.relink (h.quiet hl) rfl rfl h.config h.sound.lanes.window rfl

theorem Port.Steady.acceptIdent {q : Port} (h : q.Steady) (hl : q.link ≠ .up) (seq : Seq) (cls : BitVec 16)
    (rev win : Byte) : (q.acceptIdent seq cls rev win).Steady :=
  h.relink (h.quiet hl) rfl rfl h.config (PortConfig.effective_le h.config _) rfl

theorem Port.LineMove.steady {q q' : Port} (m : q.LineMove q') (h : q.Steady) : q'.Steady := by
  cases m with
  | aside m => exact h.of_core m.core
  | arbitrate => exact h.arbitrate
  | hold => exact h.hold
  | lose cause now => exact h.sound.lanes.lost h.config cause now
  | complete w rest l now hw => exact h.complete hw l now
  | exhaust w rest cause now =>
    refine (h.sound.lanes.dropOldest w.record _).lost ?_ cause now
    obtain ⟨done, drop, e⟩ := q.dropOldest.counted_eq w.record (.failed cause w.seq)
    rw [e]
    exact h.config
  | retry w rest hw hlim hb => exact h.retry hw hlim hb
  | beginBackoff w rest now hw hlim => exact h.beginBackoff hw hlim now
  | endFrame x now => exact h.endFrame x.frame now
  | stopTimer => exact h.stopTimer
  | endBackoff => exact h.endBackoff
  | reprobe now hl => exact h.enterProbing (by simp [hl]) now
  | acceptIdent seq cls rev win hl => exact h.acceptIdent (by simp [hl]) seq cls rev win

theorem Port.LineMoves.steady {q q' : Port} (m : q.LineMoves q') (h : q.Steady) : q'.Steady := by
  induction m with
  | refl => exact h
  | tail _ m ih => exact m.steady ih

/-! ## Host accesses and resets -/

theorem PortConfig.reset_inRange : PortConfig.reset.InRange := by constructor <;> decide

theorem Port.resetWith_steady (carrier : Bool) {c : PortConfig} (h : c.InRange) : (Port.resetWith carrier c).Steady where
  config := h
  quiet _ := ⟨rfl, rfl, rfl, rfl⟩
  sound := by
    refine Port.LanesSound.sound ⟨?_, ?_, ?_, ?_, ?_⟩ ⟨rfl, rfl, rfl, rfl⟩ <;> simp [Port.resetWith, Port.poolCount]

/-- A configuration word that is taken gives a configuration in range (R98). -/
theorem PortConfig.InRange.written {c d : PortConfig} (h : c.InRange) {v : Word}
    (hv : c.withA v = some d ∨ c.withB v = some d) : d.InRange := by
  obtain hv | hv := hv
  · unfold PortConfig.withA at hv
    split at hv
    · cases hv
    · simp only [Option.ite_none_left_eq_some, Option.some.injEq, not_or, not_lt] at hv
      obtain ⟨⟨h1, h2, h3, h4⟩, rfl⟩ := hv
      exact ⟨⟨Nat.pos_of_ne_zero h1, h2⟩, h3, h4, h.timeout, h.backoff⟩
  · simp only [PortConfig.withB, Option.ite_none_left_eq_some, Option.some.injEq, not_or] at hv
    obtain ⟨⟨h1, h2⟩, rfl⟩ := hv
    exact ⟨h.windowLimit, h.busyLimit, h.probeInterval, h1, h2⟩

/-- A record joins the tail of its lane while there is room (R3, R4). -/
theorem Port.Steady.join {q : Port} (h : q.Steady) {r : Record} {x : Source} (hroom : q.refusal x = none)
    (hr : r.lane = .priority → r.reserved = false) : (q.join r).Steady := by
  have hpool : (q.join r).poolCount ≤ 16 := by
    have := ((q.refusal_eq_none x).1 hroom).2
    rw [Port.join_poolCount]
    omega
  have hs := h.sound
  unfold Port.join at hpool ⊢
  cases hl : r.lane with
  | priority =>
    rw [hl] at hpool
    refine ⟨{ hs with pool := hpool, priorityLane := fun x hx => ?_ }, h.config, fun hne => ?_⟩
    · obtain hx | hx := List.mem_append.1 hx
      · exact hs.priorityLane x hx
      · rw [List.mem_singleton.1 hx]; exact ⟨hl, hr hl⟩
    · obtain ⟨hw, hr, hb, ht⟩ := h.quiet hne
      exact ⟨hw, hr, hb, ht⟩
  | normal =>
    rw [hl] at hpool
    refine ⟨{ hs with pool := hpool, normalLane := fun x hx => ?_ }, h.config, fun hne => ?_⟩
    · obtain hx | hx := List.mem_append.1 hx
      · exact hs.normalLane x hx
      · rw [List.mem_singleton.1 hx]; exact hl
    · obtain ⟨hw, hr, hb, ht⟩ := h.quiet hne
      exact ⟨hw, hr, hb, ht⟩

/-- A removal from the lanes keeps the rest lawful. -/
theorem Port.Steady.sub {q : Port} (h : q.Steady) {ps ns : List Record} (hp : ps.Sublist q.priority)
    (hn : ns.Sublist q.normal) : Port.Steady { q with priority := ps, normal := ns } where
  config := h.config
  quiet hl := by
    obtain ⟨hw, hr, hb, ht⟩ := h.quiet hl
    exact ⟨hw, hr, hb, ht⟩
  sound :=
    have lanes := h.sound.lanes.sub (q' := { q with priority := ps, normal := ns }) hp hn (List.Sublist.refl _)
      h.sound.lanes.window
    { h.sound with pool := lanes.pool, priorityLane := lanes.priorityLane, normalLane := lanes.normalLane }

/-- The posted-write counters, the queue state and the command result are no part of steadiness. -/
theorem Port.Steady.setCounters {q : Port} (h : q.Steady) (a b c : Word) (k : QueueState) (r : CommandResult) :
    Port.Steady { q with postedIn := a, postedDone := b, postedDrop := c, queue := k, commandResult := r } where
  config := h.config
  quiet hl := by
    obtain ⟨hw, hr, hb, ht⟩ := h.quiet hl
    exact ⟨hw, hr, hb, ht⟩
  sound := { h.sound with }

theorem Port.HostMove.steady {q q' : Port} (m : q.HostMove q') (h : q.Steady) : q'.Steady := by
  cases m with
  | configure c v hl hv =>
    exact h.relink (h.quiet (by simp [hl])) rfl rfl (h.config.written hv) h.sound.lanes.window rfl
  | enable now hl =>
    have hq : Port.Steady { q with nextSeq := 0, receiver := .hunt false } :=
      h.relink (h.quiet (by simp [hl])) rfl rfl h.config h.sound.lanes.window rfl
    exact (hq.enterProbing (by simp [hl]) now).of_core rfl
  | disable => exact ((Port.resetWith_steady q.carrier h.config).setCounters q.postedIn q.postedDone _ .run .done).of_core rfl
  | resume => exact h.setCounters _ _ _ _ _
  | flush => exact (h.sub List.filter_sublist List.filter_sublist).setCounters _ _ _ _ _
  | join r hroom _ hr => exact h.join hroom (fun _ => hr)
  | joinPosted remote d hroom => exact (h.join hroom (r := postedRecord remote d) (fun _ => rfl)).setCounters _ _ _ _ _
  | withdraw n => exact h.sub List.filter_sublist List.filter_sublist

theorem Port.HostTurn.steady {q q' : Port} (m : q.HostTurn q') (h : q.Steady) : q'.Steady := by
  obtain m | ⟨x, m, rfl | rfl⟩ := m
  · exact m.steady h
  · exact m.steady h
  · exact (m.steady h).arbitrate

end Sys2Proof.Machine
end

section
/-! PROOF. What one step of the bridge can do to its ports and to the access in progress, said once (`State.Turn`), so that each
law of the ports is one case per kind of turn and one per move of a port. -/

namespace Sys2Proof.Machine

/-! ## Turns of the line and of time -/

/-- `t` comes from `s` by moves of the line's kind at port `p`, and by what those hand to the slots and the event queue. -/
structure State.LineTurn (p : PortId) (s t : State) : Prop where
  within : State.Within p s t
  moves : (s.port p).LineMoves (t.port p)

theorem State.LineTurn.refl (p : PortId) (s : State) : State.LineTurn p s s := ⟨.refl p s, .refl⟩

theorem State.LineTurn.trans {p : PortId} {s t u : State} (h : State.LineTurn p s t) (k : State.LineTurn p t u) :
    State.LineTurn p s u := ⟨h.within.trans k.within, Relation.ReflTransGen.trans h.moves k.moves⟩

/-- Every port of a line turn makes moves of the line's kind: the others make none. -/
theorem State.LineTurn.port {p : PortId} {s t : State} (h : State.LineTurn p s t) (r : PortId) :
    (s.port r).LineMoves (t.port r) := by
  by_cases hr : r = p
  · subst hr; exact h.moves
  · rw [h.within.others r hr]

theorem State.LineTurn.steady {p : PortId} {s t : State} (h : State.LineTurn p s t) (hs : (s.port p).Steady) :
    (t.port p).Steady := h.moves.steady hs

/-- One move at port `p`. -/
theorem State.lineTurn_modPort (s : State) (p : PortId) {f : Port → Port} (m : (s.port p).LineMove (f (s.port p))) :
    State.LineTurn p s (s.modPort p f) :=
  ⟨s.within_modPort p f, by rw [State.modPort_port_self]; exact .single m⟩

theorem State.lineTurn_aside (s : State) (p : PortId) {f : Port → Port} (m : (s.port p).AsideMove (f (s.port p))) :
    State.LineTurn p s (s.modPort p f) := s.lineTurn_modPort p (.aside m)

theorem State.lineTurn_offer (s : State) (p : PortId) (o : Offer) : State.LineTurn p s (s.offer o) :=
  ⟨s.within_offer p o, .refl⟩

theorem State.lineTurn_arbitrate (s : State) (p : PortId) : State.LineTurn p s (s.arbitrate p) :=
  s.lineTurn_modPort p .arbitrate

theorem State.lineTurn_stale (s : State) (p : PortId) : State.LineTurn p s (s.stale p) := s.lineTurn_aside p .stale

theorem State.settle_port_self (s : State) (p : PortId) (r : Record) (l : Leaving) :
    (s.settle p r l).port p = (s.port p).counted r l := by
  rw [State.settle_port]
  simp only [and_true]
  rfl

/-! ### The sequencer -/

theorem State.lineTurn_loseLink (s : State) (p : PortId) (cause : Cause) (hl : (s.port p).link = .up) :
    State.LineTurn p s (s.loseLink p cause) where
  within := s.within_loseLink p cause
  moves := by
    rw [(s.loseLink_spec p cause).1]
    exact .single (.lose cause s.now hl)

theorem State.exhaust_port (s : State) (p : PortId) (w : Sent) (cause : Cause) :
    (s.exhaust p w cause).port p =
      ((s.port p).dropOldest.counted w.record (.failed cause w.seq)).lost cause s.now := by
  unfold State.exhaust
  dsimp only
  rw [(State.loseLink_spec _ p cause).1, State.settle_port_self, State.modPort_port_self, State.settle_now, State.modPort_now]

theorem State.lineTurn_exhaust (s : State) (p : PortId) {w : Sent} {rest : List Sent} (hw : (s.port p).window = w :: rest)
    (cause : Cause) : State.LineTurn p s (s.exhaust p w cause) where
  within := s.within_exhaust p w cause
  moves := by
    rw [s.exhaust_port p w cause]
    exact .single (.exhaust w rest cause s.now hw)

theorem State.lineTurn_retryOldest (s : State) (p : PortId) (hb : (s.port p).backoff = none) :
    State.LineTurn p s (s.retryOldest p) := by
  obtain ⟨-, e⟩ | ⟨w, rest, hw, ⟨hlim, e⟩ | ⟨-, e⟩⟩ := s.retryOldest_cases p <;> rw [e]
  · exact .refl p s
  · exact (s.lineTurn_modPort p (.retry w rest hw hlim hb)).trans (State.lineTurn_arbitrate _ p)
  · exact s.lineTurn_exhaust p hw .timeout

theorem State.lineTurn_busyRefusal (s : State) (p : PortId) : State.LineTurn p s (s.busyRefusal p) := by
  obtain ⟨-, e⟩ | ⟨w, rest, hw, ⟨hlim, e⟩ | ⟨-, e⟩⟩ := s.busyRefusal_cases p <;> rw [e]
  · exact .refl p s
  · exact s.lineTurn_modPort p (.beginBackoff w rest s.now hw hlim)
  · exact s.lineTurn_exhaust p hw .busy

/-- The hold of a completion commutes with the rest of it: it takes other fields of the port. -/
theorem Port.hold_complete (q : Port) (r : Record) (l : Leaving) (done : Seq) (now : Nat) :
    (q.dropOldest.counted r l).hold.afterCompletion done now =
      (q.hold.dropOldest.counted r l).afterCompletion done now := by
  have h : (q.dropOldest.counted r l).hold = q.hold.dropOldest.counted r l := by
    unfold Port.counted
    split
    · cases l <;> rfl
    · rfl
  rw [h]

theorem State.complete_port (s : State) (p : PortId) (w : Sent) (l : Leaving) :
    (s.complete p w l).port p =
      (((if l.holds w.record then (s.port p).hold else s.port p).dropOldest.counted w.record l).afterCompletion
        w.seq s.now).arbitrate := by
  unfold State.complete
  dsimp only
  have hnow := State.settle_now (s.modPort p Port.dropOldest) p w.record l
  split
  · rw [State.arbitrate_port_self, State.modPort_port_self, (State.hold_spec _ p).1, State.settle_port_self,
      State.modPort_port_self, State.shell_now (State.within_hold _ p).shell, hnow, Port.hold_complete]
    rfl
  · rw [State.arbitrate_port_self, State.modPort_port_self, State.settle_port_self, State.modPort_port_self, hnow]
    rfl

theorem State.lineTurn_complete (s : State) (p : PortId) {w : Sent} {rest : List Sent} (hl : (s.port p).link = .up)
    (hw : (s.port p).window = w :: rest) (l : Leaving) : State.LineTurn p s (s.complete p w l) where
  within := s.within_complete p w l
  moves := by
    rw [s.complete_port p w l]
    split
    · exact ((Relation.ReflTransGen.single (.hold hl)).tail (.complete w rest l s.now hw)).tail .arbitrate
    · exact (Relation.ReflTransGen.single (.complete w rest l s.now hw)).tail .arbitrate

theorem State.lineTurn_outOfOrder (s : State) (p : PortId) (hb : (s.port p).backoff = none) :
    State.LineTurn p s (s.outOfOrder p) := by
  unfold State.outOfOrder
  split
  · exact (s.lineTurn_stale p).trans (State.lineTurn_retryOldest _ p (by rwa [State.stale, State.modPort_port_self]))
  · exact s.lineTurn_stale p

/-! ### Responses -/

theorem State.lineTurn_respond (s : State) (p : PortId) (r : Seq) (act : Sent → State)
    (h : ∀ w rest, (s.port p).link = .up → (s.port p).window = w :: rest → State.LineTurn p s (act w)) :
    State.LineTurn p s (s.respond p r act) := by
  obtain e | ⟨-, hb, -, -, e⟩ | ⟨hl, w, rest, hw, -, e⟩ := s.respond_cases p r act <;> rw [e]
  · exact s.lineTurn_stale p
  · exact s.lineTurn_outOfOrder p hb
  · exact h w rest hl hw

theorem State.lineTurn_ackResponse (s : State) (p : PortId) (r : Seq) : State.LineTurn p s (s.ackResponse p r) := by
  refine s.lineTurn_respond p r _ fun w rest hl hw => ?_
  split
  · exact s.lineTurn_complete p hl hw _
  · exact s.lineTurn_loseLink p _ hl

theorem State.lineTurn_dataResponse (s : State) (p : PortId) (r : Seq) (d : List Byte) :
    State.LineTurn p s (s.dataResponse p r d) := by
  refine s.lineTurn_respond p r _ fun w rest hl hw => ?_
  split
  · split
    · exact s.lineTurn_complete p hl hw _
    · exact s.lineTurn_loseLink p _ hl
  · exact s.lineTurn_loseLink p _ hl

theorem State.lineTurn_sequenceRefusal (s : State) (p : PortId) (e : Seq) :
    State.LineTurn p s (s.sequenceRefusal p e) := by
  unfold State.sequenceRefusal
  dsimp only
  split
  · exact s.lineTurn_stale p
  · rename_i hl
    split
    · exact s.lineTurn_stale p
    · rename_i hb
      split
      · exact s.lineTurn_retryOldest p (by simpa using hb)
      · exact s.lineTurn_loseLink p _ (by simpa using hl)

theorem State.lineTurn_rejectResponse (s : State) (p : PortId) (r : Seq) (c : RejectCause) (e : Seq) :
    State.LineTurn p s (s.rejectResponse p r c e) := by
  cases c with
  | sequence => exact s.lineTurn_sequenceRefusal p e
  | busy =>
    refine s.lineTurn_respond p r _ fun w rest _ _ => ?_
    split
    · exact s.lineTurn_stale p
    · exact s.lineTurn_busyRefusal p
  | address => exact s.lineTurn_respond p r _ fun w rest hl hw => s.lineTurn_complete p hl hw _
  | denied => exact s.lineTurn_respond p r _ fun w rest hl hw => s.lineTurn_complete p hl hw _

theorem State.lineTurn_identFrame (s : State) (p : PortId) (r : Seq) (c : BitVec 16) (v w : Byte) :
    State.LineTurn p s (s.identFrame p r c v w) := by
  unfold State.identFrame
  dsimp only
  split
  · rename_i h
    have hoffer : State.LineTurn p s (if (s.port p).station.changedBy c v then
        s.offer ⟨.stationChanged, p, .none, 0, .cls c⟩ else s) ∧ (if (s.port p).station.changedBy c v then
        s.offer ⟨.stationChanged, p, .none, 0, .cls c⟩ else s).port p = s.port p := by
      split
      · exact ⟨s.lineTurn_offer p _, rfl⟩
      · exact ⟨.refl p s, rfl⟩
    refine ((hoffer.1.trans (State.lineTurn_modPort _ p ?_)).trans (State.lineTurn_offer _ p _)).trans
      (State.lineTurn_arbitrate _ p)
    rw [hoffer.2]
    exact .acceptIdent r c v w h.1 h.2
  · exact s.lineTurn_stale p

/-! ### The receiver -/

/-- No move of the line's kind turns a port OFF. -/
theorem Port.LineMove.link_ne_off {q q' : Port} (m : q.LineMove q') (h : q.link ≠ .off) : q'.link ≠ .off := by
  have hcount : ∀ (x : Port) (r : Record) (l : Leaving), (x.counted r l).link = x.link := by
    intro x r l
    obtain ⟨done, drop, e⟩ := x.counted_eq r l
    rw [e]
  cases m with
  | aside m =>
    have e := m.core
    simp only [Port.core, Prod.mk.injEq] at e
    rw [e.2.2.1]
    exact h
  | arbitrate =>
    obtain e | ⟨-, -, -, w, -, e⟩ | ⟨-, -, -, e⟩ | ⟨-, -, -, -, -, r, rest, -, -, e⟩ |
      ⟨-, -, -, -, -, -, r, rest, -, -, e⟩ := q.arbitrate_cases <;> rw [e] <;> exact h
  | hold => exact h
  | lose cause now => exact fun hl => by cases hl
  | complete w rest l now hw =>
    have e : ((q.dropOldest.counted w.record l).afterCompletion w.seq now).link = (q.dropOldest.counted w.record l).link := by
      unfold Port.afterCompletion
      dsimp only
      split <;> rfl
    rw [e, hcount]
    exact h
  | exhaust => exact fun hl => by cases hl
  | retry w rest hw => simpa [Port.raiseRetry, Port.beginRun, hw] using h
  | beginBackoff w rest now hw => simpa [Port.beginBackoff, hw] using h
  | endFrame x now =>
    unfold Port.reportEnd
    split
    · split <;> exact h
    · split <;> exact h
  | stopTimer => exact h
  | endBackoff => exact h
  | reprobe now =>
    have e := q.enterProbing_core now
    simp only [Port.core, Prod.mk.injEq] at e
    exact fun hl => by cases e.2.2.1.symm.trans hl
  | acceptIdent => exact fun hl => by cases hl

theorem Port.LineMoves.link_ne_off {q q' : Port} (m : q.LineMoves q') (h : q.link ≠ .off) : q'.link ≠ .off := by
  induction m with
  | refl => exact h
  | tail _ m ih => exact m.link_ne_off ih

theorem State.lineTurn_takeAttention (s : State) (p : PortId) (flag : Bool) (h : (s.port p).link ≠ .off) :
    State.LineTurn p s (s.takeAttention p flag) := by
  unfold State.takeAttention
  split
  · exact (s.lineTurn_aside p (.attention h)).trans (State.lineTurn_offer _ p _)
  · exact .refl p s

theorem State.lineTurn_deliver (s : State) (p : PortId) (f : StationFrame) (h : (s.port p).link ≠ .off) :
    State.LineTurn p s (s.deliver p f) := by
  have hframe : ∀ t, State.LineTurn p s t → State.LineTurn p s (t.takeAttention p f.attention) := fun t ht =>
    ht.trans (t.lineTurn_takeAttention p _ (ht.moves.link_ne_off h))
  unfold State.deliver
  dsimp only
  apply hframe
  split
  · exact s.lineTurn_ackResponse p _
  · exact s.lineTurn_dataResponse p _ _
  · exact s.lineTurn_rejectResponse p _ _ _
  · exact s.lineTurn_identFrame p _ _ _ _

theorem State.lineTurn_reception (s : State) (p : PortId) (r : Reception) (h : (s.port p).link ≠ .off) :
    State.LineTurn p s (s.reception p r) := by
  cases r with
  | malformed => exact s.lineTurn_aside p .malformed
  | crcError => exact s.lineTurn_aside p .crcError
  | good f => exact s.lineTurn_deliver p f h

theorem Port.listening_link {q : Port} (h : q.listening = true) : q.link ≠ .off := by
  simp only [Port.listening, Bool.and_eq_true, bne_iff_ne] at h
  exact h.1

theorem State.lineTurn_lineByte (s : State) (p : PortId) (b : Byte) : State.LineTurn p s (s.lineByte p b) := by
  unfold State.lineByte
  dsimp only
  split
  · rename_i h
    have hr := s.lineTurn_aside p (f := fun q => { q with receiver := (receiveByte (s.port p).receiver b).1 })
      (.receive _ h)
    split
    · exact hr
    · exact hr.trans (State.lineTurn_reception _ p _ (hr.moves.link_ne_off (Port.listening_link h)))
  · exact .refl p s

theorem State.lineTurn_lineBytes (p : PortId) (bs : List Byte) (s : State) : State.LineTurn p s (s.lineBytes p bs) := by
  induction bs generalizing s with
  | nil => exact .refl p s
  | cons b bs ih => exact (s.lineTurn_lineByte p b).trans (ih _)

theorem State.lineTurn_stationFrame (s : State) (p : PortId) (f : StationFrame) :
    State.LineTurn p s (s.stationFrame p f) := by
  have hhunt := fun h : (s.port p).listening = true => s.lineTurn_aside p (f := Port.toHunt) (.receive (.hunt false) h)
  obtain ⟨-, e⟩ | ⟨h, -, e⟩ | ⟨h, -, e⟩ := s.stationFrame_cases p f <;> rw [e]
  · exact .refl p s
  · exact (hhunt h).trans (State.lineTurn_deliver _ p f ((hhunt h).moves.link_ne_off (Port.listening_link h)))
  · exact (hhunt h).trans (State.lineTurn_aside _ p .malformed)

/-! ### Carrier, transmitter and timers -/

theorem State.lineTurn_loseCarrier (s : State) (p : PortId) : State.LineTurn p s (s.loseCarrier p) := by
  have hdrop := s.lineTurn_aside p (f := fun q => q.dropPartial.setCarrier false) .loseCarrier
  unfold State.loseCarrier
  dsimp only
  split
  · split
    · rename_i hl
      refine hdrop.trans (State.lineTurn_loseLink _ p _ ?_)
      have e := (s.port p).dropPartial_core
      simp only [Port.core, Prod.mk.injEq] at e
      rw [State.modPort_port_self]
      exact e.2.2.1.trans hl
    · exact hdrop
  · exact .refl p s

theorem State.lineTurn_regainCarrier (s : State) (p : PortId) : State.LineTurn p s (s.regainCarrier p) := by
  unfold State.regainCarrier
  split
  · exact .refl p s
  · exact s.lineTurn_aside p .regainCarrier

theorem State.lineTurn_endTransmission (s : State) (p : PortId) : State.LineTurn p s (s.endTransmission p) := by
  unfold State.endTransmission
  split
  · exact .refl p s
  · rename_i x hx
    exact (s.lineTurn_modPort p (.endFrame x s.now hx)).trans (State.lineTurn_arbitrate _ p)

/-- The response timer runs only outside backoff, so its expiry finds none (R54). -/
theorem State.lineTurn_expireResponseTimer (s : State) (p : PortId) (h : (s.port p).QueueSound) :
    State.LineTurn p s (s.expireResponseTimer p) := by
  unfold State.expireResponseTimer
  split
  · exact .refl p s
  · rename_i x hx
    refine (s.lineTurn_modPort p (f := fun q => { q with responseTimer := none }) .stopTimer).trans
      (State.lineTurn_retryOldest _ p ?_)
    rw [State.modPort_port_self]
    by_contra hb
    have := (h.backoff (Option.isSome_iff_ne_none.2 hb)).2.2
    simp [hx] at this

theorem State.lineTurn_endBackoff (s : State) (p : PortId) : State.LineTurn p s (s.endBackoff p) := by
  unfold State.endBackoff
  split
  · exact .refl p s
  · exact (s.lineTurn_modPort p .endBackoff).trans (State.lineTurn_arbitrate _ p)

theorem State.lineTurn_expireResponseWait (s : State) (p : PortId) : State.LineTurn p s (s.expireResponseWait p) := by
  unfold State.expireResponseWait
  split
  · rename_i h
    exact s.lineTurn_aside p (.failProbe s.now h)
  · exact .refl p s

theorem State.lineTurn_expireProbeInterval (s : State) (p : PortId) : State.LineTurn p s (s.expireProbeInterval p) := by
  unfold State.expireProbeInterval
  split
  · rename_i h
    exact (s.lineTurn_aside p (.probeFallsDue s.now h)).trans (State.lineTurn_arbitrate _ p)
  · exact .refl p s

theorem State.lineTurn_expireReprobeInterval (s : State) (p : PortId) :
    State.LineTurn p s (s.expireReprobeInterval p) := by
  unfold State.expireReprobeInterval
  split
  · rename_i h
    simp only [Bool.and_eq_true, beq_iff_eq] at h
    exact (s.lineTurn_modPort p (.reprobe s.now h.2)).trans (State.lineTurn_arbitrate _ p)
  · exact .refl p s

end Sys2Proof.Machine
end

section
/-! PROOF. What one step of the bridge can do to its ports and to the access in progress, said once (`State.Turn`): each law of
the ports is then one case per kind of turn. -/

namespace Sys2Proof.Machine

/-- What one step can do to the ports and to the access in progress. -/
inductive State.Turn (s t : State) : Prop where
  /-- A happening of the line or of time: no access begins or ends. -/
  | line : t.target = s.target →
      (t.resetAsserted = true ∨ t.chipResetDue = true → s.resetAsserted = true ∨ s.chipResetDue = true) →
      (∀ p, (s.port p).LineMoves (t.port p)) → Turn s t
  /-- A host access that is terminated at once: it concerns one port at most. -/
  | host (p : PortId) : s.Ready → t.target = s.target → (∀ r, r ≠ p → t.port r = s.port r) →
      (s.port p).HostTurn (t.port p) → Turn s t
  /-- A host access that is passed without a reservation (R113, R119). -/
  | pass (a : HeldAccess) : s.Ready → a.mirror = none → t.target = { s.target with access := some a } →
      t.resetAsserted = false → t.chipResetDue = false → (∀ p, (s.port p).LineMoves (t.port p)) → Turn s t
  /-- A write that is passed with a mirror reservation (R7, R117). -/
  | reserve (master : MasterId) (addr : Word) (d : WriteData) (m : MirrorTarget) : s.Ready →
      (s.port m.port).refusal .posted = none → t.target = ⟨some ⟨master, addr, .write d, some m⟩, some m.port, none⟩ →
      t.resetAsserted = false → t.chipResetDue = false → (∀ r, r ≠ m.port → t.port r = s.port r) →
      t.port m.port = (s.port m.port).join (reservedRecord m.remote d) → Turn s t
  /-- The termination of an access that holds no reservation (R109). -/
  | ended : s.target.reservation = none → t.target = { s.target with access := none } → (∀ p, t.port p = s.port p) → Turn s t
  /-- A commit (R8, R118). -/
  | commit (p : PortId) (data : List Byte) : s.target.reservation = some p → t.target = HostTarget.reset →
      (∀ r, r ≠ p → t.port r = s.port r) → t.port p = ((s.port p).commitReserved data).arbitrate → Turn s t
  /-- A release (R8, R118). -/
  | release (p : PortId) : s.target.reservation = some p → t.target = HostTarget.reset →
      (∀ r, r ≠ p → t.port r = s.port r) → t.port p = (s.port p).releaseReserved → Turn s t
  /-- Either reset: the configuration is kept or takes its reset value (R159, R160). -/
  | reset : t.target = HostTarget.reset →
      (∀ p, ∃ c, (c = (s.port p).config ∨ c = PortConfig.reset) ∧ t.port p = Port.resetWith (s.port p).carrier c) → Turn s t

/-! ## Host accesses that are terminated at once -/

/-- A host access concerns port `p` at most, and leaves the access in progress as it is. -/
structure State.HostTurn (p : PortId) (s t : State) : Prop where
  target : t.target = s.target
  others : ∀ r, r ≠ p → t.port r = s.port r
  port : (s.port p).HostTurn (t.port p)

theorem State.LineTurn.host {p : PortId} {s t : State} (h : State.LineTurn p s t) : State.HostTurn p s t :=
  ⟨State.shell_target h.within.shell, h.within.others, .inl h.moves⟩

theorem State.HostTurn.turn {p : PortId} {s t : State} (h : State.HostTurn p s t) (hr : s.Ready) : State.Turn s t :=
  .host p hr h.target h.others h.port

/-- What changes no port and not the access in progress is a host access of any port. -/
theorem State.hostTurn_of_eq (p : PortId) {s t : State} (ht : t.target = s.target) (h : ∀ r, t.port r = s.port r) :
    State.HostTurn p s t := ⟨ht, fun r _ => h r, .inl (by rw [h p])⟩

theorem State.HostTurn.withAnswer {p : PortId} {s t : State} (h : State.HostTurn p s t) (a : Answer) :
    State.HostTurn p s (t.withAnswer a) := ⟨h.target, h.others, h.port⟩

/-- A move of a host access's own, and what follows it outside the port. -/
theorem State.Within.hostTurn {p : PortId} {s t : State} (h : State.Within p s t) (m : (s.port p).HostMove (t.port p)) :
    State.HostTurn p s t := ⟨State.shell_target h.shell, h.others, .inr ⟨_, m, .inl rfl⟩⟩

/-- The same, and then the arbiter's choice. -/
theorem State.Within.hostTurn_arbitrate {p : PortId} {s t : State} (h : State.Within p s t)
    (m : (s.port p).HostMove (t.port p)) : State.HostTurn p s (t.arbitrate p) where
  target := State.shell_target h.shell
  others := (h.trans (State.within_arbitrate t p)).others
  port := .inr ⟨_, m, .inr (State.arbitrate_port_self t p)⟩

/-! ### Port commands -/

theorem State.hostTurn_portResult (s : State) (p : PortId) (r : CommandResult) : State.HostTurn p s (s.portResult p r) :=
  (s.lineTurn_aside p (.result r)).host

theorem State.hostTurn_enablePort (s : State) (p : PortId) : State.HostTurn p s (s.enablePort p) := by
  unfold State.enablePort
  split
  · rename_i hl
    refine ((s.within_modPort p _).trans (State.within_portResult _ p _)).hostTurn_arbitrate ?_
    rw [State.portResult, State.modPort_port_self, State.modPort_port_self]
    exact .enable s.now hl
  · exact s.hostTurn_portResult p _

theorem State.offerFlushed_port (s : State) (p : PortId) (rs : List Record) (r : PortId) :
    (s.offerFlushed p rs).port r = s.port r := by
  unfold State.offerFlushed
  split <;> rfl

theorem State.hostTurn_disablePort (s : State) (p : PortId) : State.HostTurn p s (s.disablePort p) := by
  have hw := s.within_disablePort p
  unfold State.disablePort at hw ⊢
  split
  · exact s.hostTurn_portResult p _
  · rename_i hl
    rw [if_neg hl] at hw
    refine hw.hostTurn ?_
    rw [State.offerFlushed_port, State.settleAll_port, State.modPort_port_self]
    exact .disable hl

theorem State.hostTurn_flushPort (s : State) (p : PortId) : State.HostTurn p s (s.flushPort p) := by
  have hw := s.within_flushPort p
  unfold State.flushPort at hw ⊢
  split
  · exact s.hostTurn_portResult p _
  · rename_i hl
    rw [if_neg hl] at hw
    refine hw.hostTurn ?_
    rw [State.offerFlushed_port, State.settleAll_port, State.modPort_port_self]
    exact .flush hl

theorem State.hostTurn_resumePort (s : State) (p : PortId) : State.HostTurn p s (s.resumePort p) := by
  unfold State.resumePort
  split
  · rename_i h
    refine (s.within_modPort p _).hostTurn_arbitrate ?_
    rw [State.modPort_port_self]
    exact .resume h.1 h.2
  · exact s.hostTurn_portResult p _

theorem State.hostTurn_restartPort (s : State) (p : PortId) : State.HostTurn p s (s.restartPort p) := by
  unfold State.restartPort
  split
  · rename_i hl
    refine State.LineTurn.host (.trans ⟨s.within_modPort p _, ?_⟩ (State.lineTurn_arbitrate _ p))
    rw [State.modPort_port_self]
    exact (Relation.ReflTransGen.single (.reprobe s.now hl)).tail (.aside (.result .done))
  · exact s.hostTurn_portResult p _

theorem State.hostTurn_ackAttention (s : State) (p : PortId) : State.HostTurn p s (s.ackAttention p) := by
  unfold State.ackAttention
  split
  · exact s.hostTurn_portResult p _
  · rename_i hl
    refine State.LineTurn.host ⟨s.within_modPort p _, ?_⟩
    rw [State.modPort_port_self]
    exact (Relation.ReflTransGen.single (.aside (.clearAttention hl))).tail (.aside (.result .done))

theorem State.hostTurn_portCommand (s : State) (p : PortId) (code : BitVec 4) :
    State.HostTurn p s (s.portCommand p code) := by
  unfold State.portCommand
  repeat' split
  · exact s.hostTurn_enablePort p
  · exact s.hostTurn_disablePort p
  · exact s.hostTurn_resumePort p
  · exact s.hostTurn_flushPort p
  · exact s.hostTurn_restartPort p
  · exact s.hostTurn_ackAttention p
  · exact s.hostTurn_portResult p _

/-! ### Slot commands -/

theorem State.within_slotResult (s : State) (p : PortId) (n : SlotId) (r : CommandResult) :
    State.Within p s (s.slotResult n r) := s.within_setRequest p n _

theorem State.Within.hostTurn_of_ports {p : PortId} {s t : State} (h : State.Within p s t) (hp : t.port p = s.port p) :
    State.HostTurn p s t := ⟨State.shell_target h.shell, h.others, .inl (by rw [hp])⟩

theorem State.hostTurn_slotResult (s : State) (p : PortId) (n : SlotId) (r : CommandResult) :
    State.HostTurn p s (s.slotResult n r) := (s.within_slotResult p n r).hostTurn_of_ports rfl

theorem State.completeRequest_port (s : State) (n : SlotId) (c : Cause) (b : Vector Byte 16) (p : PortId) :
    (s.completeRequest n c b).port p = s.port p := by
  unfold State.port
  rw [State.completeRequest_ports]

/-- The record of a request joins its port's lane, and the arbiter chooses (R10). -/
theorem State.hostTurn_admitRequest (s : State) (n : SlotId)
    (h : (s.port (s.request n).port).refusal (.request n) = none) :
    State.HostTurn (s.request n).port s (s.admitRequest n) := by
  have hmove : (s.port (s.request n).port).HostMove ((s.port (s.request n).port).join (requestRecord n (s.request n))) :=
    .join _ h Source.noConfusion rfl
  unfold State.admitRequest
  dsimp only
  have hjoin := (s.within_modPort (s.request n).port (·.join (requestRecord n (s.request n)))).trans
    (State.within_setRequest _ _ n { s.request n with state := .submitted })
  split
  · refine (hjoin.trans (State.within_invalidate _ _ _)).hostTurn_arbitrate ?_
    rw [State.invalidate, State.setReads_port, State.setRequest_port, State.modPort_port_self]
    exact hmove
  · refine hjoin.hostTurn_arbitrate ?_
    rw [State.setRequest_port, State.modPort_port_self]
    exact hmove

theorem State.slotResult_request_self (s : State) (n : SlotId) (r : CommandResult) :
    (s.slotResult n r).request n = { s.request n with commandResult := r } := State.setRequest_request_self _ _ _

theorem State.hostTurn_submitRequest (s : State) (n : SlotId) :
    State.HostTurn (s.request n).port s (s.submitRequest n) := by
  unfold State.submitRequest
  dsimp only
  split
  · split
    · rename_i h
      simp only [Bool.and_eq_true, Option.isNone_iff_eq_none] at h
      have hs := State.hostTurn_admitRequest (s.slotResult n .done) n (by rw [s.slotResult_request_self]; exact h.2)
      rw [s.slotResult_request_self] at hs
      exact ⟨hs.target, hs.others, hs.port⟩
    · exact ((s.within_slotResult _ n _).trans (State.within_completeRequest _ _ n _ _)).hostTurn_of_ports
        (State.completeRequest_port _ _ _ _ _)
  · exact s.hostTurn_slotResult _ n _

theorem State.hostTurn_cancelRequest (s : State) (n : SlotId) :
    State.HostTurn (s.request n).port s (s.cancelRequest n) := by
  unfold State.cancelRequest
  dsimp only
  split
  · refine (((s.within_slotResult _ n _).trans (State.within_modPort _ _ _)).trans
      (State.within_completeRequest _ _ n _ _)).hostTurn_arbitrate ?_
    rw [State.completeRequest_port, State.modPort_port_self]
    exact .withdraw n
  · exact s.hostTurn_slotResult _ n _

theorem State.hostTurn_releaseRequest (s : State) (p : PortId) (n : SlotId) :
    State.HostTurn p s (s.releaseRequest n) := by
  unfold State.releaseRequest
  dsimp only
  split
  · exact State.hostTurn_of_eq p rfl (fun _ => rfl)
  · exact s.hostTurn_slotResult p n _

theorem State.hostTurn_slotCommand (s : State) (n : SlotId) (code : BitVec 4) :
    State.HostTurn (s.request n).port s (s.slotCommand n code) := by
  unfold State.slotCommand
  repeat' split
  · exact s.hostTurn_submitRequest n
  · exact s.hostTurn_cancelRequest n
  · exact s.hostTurn_releaseRequest _ n
  · exact s.hostTurn_slotResult _ n _

/-! ### Settings -/

theorem State.hostTurn_configure (s : State) (p : PortId) {c : PortConfig} {v : Word} (hl : (s.port p).link = .off)
    (h : (s.port p).config.withA v = some c ∨ (s.port p).config.withB v = some c) :
    State.HostTurn p s ((s.modPort p (fun q => { q with config := c })).withAnswer .ack) := by
  refine State.HostTurn.withAnswer ((s.within_modPort p _).hostTurn ?_) .ack
  rw [State.modPort_port_self]
  exact .configure c v hl h

theorem State.hostTurn_withAnswer (s : State) (p : PortId) (a : Answer) : State.HostTurn p s (s.withAnswer a) :=
  State.hostTurn_of_eq p rfl (fun _ => rfl)

theorem State.hostTurn_writeConfigA (s : State) (p : PortId) (v : Word) : State.HostTurn p s (s.writeConfigA p v) := by
  unfold State.writeConfigA
  split
  · exact s.hostTurn_withAnswer p _
  · rename_i c hc
    split
    · rename_i hl; exact s.hostTurn_configure p hl (.inl hc)
    · exact s.hostTurn_withAnswer p _

theorem State.hostTurn_writeConfigB (s : State) (p : PortId) (v : Word) : State.HostTurn p s (s.writeConfigB p v) := by
  unfold State.writeConfigB
  split
  · exact s.hostTurn_withAnswer p _
  · rename_i c hc
    split
    · rename_i hl; exact s.hostTurn_configure p hl (.inr hc)
    · exact s.hostTurn_withAnswer p _

/-- `t` has the ports of `s` and its access in progress. -/
structure State.SamePorts (s t : State) : Prop where
  target : t.target = s.target
  ports : t.ports = s.ports

theorem State.SamePorts.hostTurn {s t : State} (h : State.SamePorts s t) (p : PortId) : State.HostTurn p s t :=
  State.hostTurn_of_eq p h.target (fun r => by simp only [State.port, h.ports])

/-- The settings outside the ports, and the commands of the event queue and of global control, reach no port. -/
theorem State.samePorts_writeWindowControl (s : State) (e : EntryId) (v : Word) :
    State.SamePorts s (s.writeWindowControl e v) := by
  unfold State.writeWindowControl
  dsimp only
  repeat' split
  all_goals exact ⟨rfl, rfl⟩

theorem State.samePorts_writeWindowBase (s : State) (e : EntryId) (v : Word) :
    State.SamePorts s (s.writeWindowBase e v) := by
  unfold State.writeWindowBase
  split <;> exact ⟨rfl, rfl⟩

theorem State.samePorts_writeWindowRemote (s : State) (e : EntryId) (v : Word) :
    State.SamePorts s (s.writeWindowRemote e v) := by
  unfold State.writeWindowRemote
  split <;> exact ⟨rfl, rfl⟩

theorem State.samePorts_writeDiscardTime (s : State) (v : Word) : State.SamePorts s (s.writeDiscardTime v) := by
  unfold State.writeDiscardTime
  dsimp only
  split <;> exact ⟨rfl, rfl⟩

theorem State.samePorts_writeInterruptControl (s : State) (v : Word) :
    State.SamePorts s (s.writeInterruptControl v) := by
  unfold State.writeInterruptControl
  dsimp only
  split <;> exact ⟨rfl, rfl⟩

theorem State.samePorts_writeRequest (s : State) (n : SlotId) (f : RequestSlot → RequestSlot) :
    State.SamePorts s (s.writeRequest n f) := by
  unfold State.writeRequest
  split <;> exact ⟨rfl, rfl⟩

theorem State.samePorts_writeRequestControl (s : State) (n : SlotId) (v : Word) :
    State.SamePorts s (s.writeRequestControl n v) := s.samePorts_writeRequest n _

theorem State.samePorts_writeRequestRemote (s : State) (n : SlotId) (v : Word) :
    State.SamePorts s (s.writeRequestRemote n v) := s.samePorts_writeRequest n _

theorem State.samePorts_writeRequestData (s : State) (n : SlotId) (k : Fin 4) (v : Word) :
    State.SamePorts s (s.writeRequestData n k v) := s.samePorts_writeRequest n _

theorem State.samePorts_writeClassMask (s : State) (v : Word) : State.SamePorts s (s.writeClassMask v) := ⟨rfl, rfl⟩

theorem State.samePorts_popEvent (s : State) : State.SamePorts s s.popEvent := ⟨rfl, rfl⟩

theorem State.samePorts_dueChipReset (s : State) : State.SamePorts s s.dueChipReset := ⟨rfl, rfl⟩

theorem State.samePorts_eventCommand (s : State) (code : BitVec 4) : State.SamePorts s (s.eventCommand code) := by
  unfold State.eventCommand
  split <;> exact ⟨rfl, rfl⟩

theorem State.samePorts_globalCommand (s : State) (code : BitVec 4) : State.SamePorts s (s.globalCommand code) := by
  unfold State.globalCommand
  split <;> exact ⟨rfl, rfl⟩

/-! ### Any register -/

theorem State.hostTurn_writeReg (s : State) (r : Reg) (v : Word) : ∃ p, State.HostTurn p s (s.writeReg r v) := by
  have hans : ∃ p, State.HostTurn p s (s.withAnswer .ack) := ⟨0, s.hostTurn_withAnswer 0 _⟩
  cases r with
  | globalControl => exact ⟨0, ((s.samePorts_globalCommand _).hostTurn 0).withAnswer _⟩
  | eventControl => exact ⟨0, ((s.samePorts_eventCommand _).hostTurn 0).withAnswer _⟩
  | classMask => exact ⟨0, (s.samePorts_writeClassMask v).hostTurn 0⟩
  | interruptControl => exact ⟨0, (s.samePorts_writeInterruptControl v).hostTurn 0⟩
  | discardTime => exact ⟨0, (s.samePorts_writeDiscardTime v).hostTurn 0⟩
  | windowControl e => exact ⟨0, (s.samePorts_writeWindowControl e v).hostTurn 0⟩
  | windowBase e => exact ⟨0, (s.samePorts_writeWindowBase e v).hostTurn 0⟩
  | windowRemote e => exact ⟨0, (s.samePorts_writeWindowRemote e v).hostTurn 0⟩
  | requestControl n => exact ⟨0, (s.samePorts_writeRequestControl n v).hostTurn 0⟩
  | requestRemote n => exact ⟨0, (s.samePorts_writeRequestRemote n v).hostTurn 0⟩
  | requestCommand n => exact ⟨_, (s.hostTurn_slotCommand n _).withAnswer _⟩
  | requestData n k => exact ⟨0, (s.samePorts_writeRequestData n k v).hostTurn 0⟩
  | port p x =>
    cases x with
    | control => exact ⟨p, (s.hostTurn_portCommand p _).withAnswer _⟩
    | configA => exact ⟨p, s.hostTurn_writeConfigA p v⟩
    | configB => exact ⟨p, s.hostTurn_writeConfigB p v⟩
    | _ => exact hans
  | _ => exact hans

theorem State.hostTurn_readAccess (s : State) (r : Reg) : ∃ p, State.HostTurn p s (s.readAccess r) := by
  cases r with
  | port p x => exact ⟨p, (s.lineTurn_aside p (.clearOnRead x)).host.withAnswer _⟩
  | _ => exact ⟨0, State.hostTurn_of_eq 0 rfl (fun _ => rfl)⟩

theorem State.hostTurn_registerAccess (s : State) (off : BitVec 10) (a : RegAccess) :
    ∃ p, State.HostTurn p s (s.registerAccess off a) := by
  have hans : ∀ x, ∃ p, State.HostTurn p s (s.withAnswer x) := fun x => ⟨0, s.hostTurn_withAnswer 0 x⟩
  unfold State.registerAccess
  split
  · exact hans _
  · split
    · exact hans _
    · exact s.hostTurn_readAccess _
  · split
    · exact hans _
    · exact s.hostTurn_writeReg _ _

/-! ### Accesses that win an OWNED entry -/

theorem State.hostTurn_ownedWrite (s : State) (h : Hit) (d : WriteData) : State.HostTurn h.port s (s.ownedWrite h d) := by
  have hans := s.hostTurn_withAnswer h.port
  unfold State.ownedWrite
  split
  · exact hans _
  · split
    · rename_i hr
      refine State.HostTurn.withAnswer (((s.within_modPort _ _).trans
        (State.within_invalidate _ _ _)).hostTurn_arbitrate ?_) _
      rw [State.invalidate, State.setReads_port, State.modPort_port_self]
      exact .joinPosted h.remote d hr
    · exact hans _
    · exact hans _

/-- A change of the DRU before a host access is no part of what the access does to the ports. -/
theorem State.HostTurn.of_reads {p : PortId} {s t : State} {d : DelayedReads} (h : State.HostTurn p (s.setReads d) t) :
    State.HostTurn p s t := ⟨h.target, h.others, h.port⟩

theorem State.hostTurn_newRead (s : State) (k : ReadKey) (h : Hit) : State.HostTurn h.port s (s.newRead k h) := by
  have hans := s.hostTurn_withAnswer h.port
  have hrefuse : State.HostTurn h.port s s.refuseRead := State.hostTurn_of_eq _ rfl (fun _ => rfl)
  unfold State.newRead
  split
  · exact hans _
  · split
    · exact hrefuse
    · rename_i n _
      split
      · exact hrefuse
      · rename_i hr
        refine State.HostTurn.withAnswer (((s.within_setReadSlot h.port n _).trans
          (State.within_modPort _ _ _)).hostTurn_arbitrate ?_) _
        rw [State.modPort_port_self, State.setReadSlot_port]
        exact .join _ hr Source.noConfusion rfl

theorem State.hostTurn_ownedRead (s : State) (k : ReadKey) (h : Hit) : State.HostTurn h.port s (s.ownedRead k h) := by
  have hans : ∀ (d : DelayedReads) (x : Answer), State.HostTurn h.port s ((s.setReads d).withAnswer x) :=
    fun d x => State.hostTurn_of_eq _ rfl (fun _ => rfl)
  have hnew : ∀ n, State.HostTurn h.port s ((s.setReadSlot n none).newRead k h) := fun n =>
    (State.hostTurn_newRead _ k h).of_reads
  unfold State.ownedRead
  split
  · exact hans s.reads _
  · unfold State.decideRead
    split
    · exact s.hostTurn_newRead k h
    · split
      · exact hans s.reads _
      · split
        · exact hans _ _
        · exact hnew _
      · split
        · exact hans _ _
        · exact hnew _

/-! ## Every host access -/

theorem State.turn_pass (s t : State) (hr : s.Ready) (a : HeldAccess) (ha : a.mirror = none) {p : PortId}
    (h : State.LineTurn p s t) : State.Turn s (t.pass a) := by
  have hs := h.within.shell
  simp only [State.shell, Prod.mk.injEq] at hs
  obtain ⟨-, ht, hra, hcd, -⟩ := hs
  exact .pass a hr ha (by simp [ht]) (hra.trans hr.released) (hcd.trans hr.noResetDue) h.port

theorem State.lineTurn_loseMirror (s : State) (p : PortId) : State.LineTurn p s (s.loseMirror p) := by
  unfold State.loseMirror
  dsimp only
  have h := s.lineTurn_aside p (f := fun q => { q with mirrorLost := satSucc16 q.mirrorLost }) .mirrorLost
  split
  · exact h.trans (State.lineTurn_offer _ p _)
  · exact h

theorem State.turn_mirroredWrite (s : State) (hr : s.Ready) (m : MasterId) (addr : Word) (h : Hit) (d : WriteData) :
    State.Turn s (s.mirroredWrite m addr h d) := by
  obtain ⟨-, e⟩ | ⟨-, -, e⟩ | ⟨-, hroom, e⟩ | ⟨-, -, -, e⟩ := s.mirroredWrite_cases m addr h d <;> rw [e]
  · exact State.turn_pass s s hr _ rfl (.refl h.port s)
  · exact State.turn_pass s _ hr _ rfl (s.lineTurn_loseMirror h.port)
  · refine .reserve m addr d ⟨h.port, h.remote⟩ hr hroom rfl hr.released hr.noResetDue (fun r hne => ?_) ?_
    · rw [State.pass_port, State.reserveMirror, State.setTarget_port, State.modPort_port_ne _ _ hne]
    · rw [State.pass_port, State.reserveMirror, State.setTarget_port, State.modPort_port_self]
  · exact (s.hostTurn_withAnswer h.port _).turn hr

theorem State.turn_windowAccess (s : State) (hr : s.Ready) (m : MasterId) (addr : Word) (k : AccessKind) :
    State.Turn s (s.windowAccess m addr k) := by
  unfold State.windowAccess
  split
  · obtain ⟨p, h⟩ := s.hostTurn_registerAccess (addr.setWidth 10) (toRegAccess k)
    exact h.turn hr
  · split
    · exact State.turn_pass s s hr _ rfl (.refl 0 s)
    · split
      · exact (s.hostTurn_ownedWrite _ _).turn hr
      · exact (s.hostTurn_ownedRead _ _).turn hr
      · exact s.turn_mirroredWrite hr m addr _ _
      · exact State.turn_pass s s hr _ rfl (.refl 0 s)

/-- What leaves the ports, the access in progress and the resets alone is a turn. -/
theorem State.turn_of_eq {s t : State} (ht : t.target = s.target)
    (hr : t.resetAsserted = true ∨ t.chipResetDue = true → s.resetAsserted = true ∨ s.chipResetDue = true)
    (hp : t.ports = s.ports) : State.Turn s t :=
  .line ht hr (fun p => by simp only [State.port, hp]; exact .refl)

/-- An access that is not decided changes its recorded answer alone. -/
theorem State.turn_present (s : State) (b : Bool) (act : State → State) (h : s.Ready → State.Turn s (act s)) :
    State.Turn s (s.present b act) := by
  obtain ⟨hr, -, e⟩ | ⟨a, -, e⟩ := s.present_cases b act <;> rw [e]
  · exact h hr
  · exact State.turn_of_eq rfl id rfl

/-- An access that is decided and terminated at once. -/
theorem State.turn_present_host (s : State) (b : Bool) {act : State → State} (h : ∃ p, State.HostTurn p s (act s)) :
    State.Turn s (s.present b act) := by
  obtain ⟨p, hp⟩ := h
  exact s.turn_present b act hp.turn

theorem State.turn_presentCommand (s : State) {act : State → State} (h : ∃ p, State.HostTurn p s (act s)) :
    State.Turn s (s.presentCommand act) := by
  obtain ⟨p, hp⟩ := h
  exact s.turn_present_host true ⟨p, hp.withAnswer .ack⟩

theorem State.turn_terminateAccess (s : State) (x : Termination) : State.Turn s (s.terminateAccess x) := by
  obtain ⟨hn, e⟩ | ⟨p, hp, ⟨-, e⟩ | ⟨-, e⟩⟩ := s.terminateAccess_cases x <;> rw [e]
  · exact .ended hn rfl (fun _ => rfl)
  · refine .commit p (s.target.capture.captured.getD []) hp ?_ (fun r hr => ?_) ?_
    · rfl
    · unfold State.commitMirror
      dsimp only
      rw [State.arbitrate, State.modPort_port_ne _ _ hr, State.setTarget_port]
      split <;> simp [State.invalidate, State.modPort_port_ne _ _ hr]
    · unfold State.commitMirror
      dsimp only
      rw [State.arbitrate_port_self, State.setTarget_port]
      split <;> simp [State.invalidate]
  · refine .release p hp rfl (fun r hr => ?_) ?_
    · simp [State.releaseMirror, State.modPort_port_ne _ _ hr]
    · simp [State.releaseMirror]

/-! ## Every command -/

theorem mapFour_get {α β : Type} (f : α → β) (v : Vector α 4) (i : Fin 4) : (mapFour f v)[i] = f v[i] := by
  fin_cases i <;> rfl

theorem State.LineTurn.turn {p : PortId} {s t : State} (h : State.LineTurn p s t) : State.Turn s t := by
  have hs := h.within.shell
  simp only [State.shell, Prod.mk.injEq] at hs
  obtain ⟨-, ht, hra, hcd, -⟩ := hs
  exact .line ht (by rw [hra, hcd]; exact id) h.port

theorem State.turn_hardwareReset (s : State) : State.Turn s s.hardwareReset :=
  .reset rfl fun p => ⟨PortConfig.reset, .inr rfl, mapFour_get _ _ p⟩

theorem State.turn_chipReset (s : State) : State.Turn s s.chipReset :=
  .reset rfl fun p => ⟨(s.port p).config, .inl rfl, mapFour_get _ _ p⟩

/-- Every command is a turn; the laws of the queue are asked for by the expiry of a response timer alone. -/
theorem exec_turn (c : Instr) (s t : State) (hq : ∀ p, (s.port p).QueueSound) (h : exec c s = .next t) : State.Turn s t := by
  cases c <;> cases h
  case ownedWrite => exact s.turn_present _ _ fun hr => s.turn_windowAccess hr _ _ _
  case ownedRead => exact s.turn_present _ _ fun hr => s.turn_windowAccess hr _ _ _
  case mirroredWrite => exact s.turn_present _ _ fun hr => s.turn_windowAccess hr _ _ _
  case passedAccess => exact s.turn_present _ _ fun hr => s.turn_windowAccess hr _ _ _
  case mirrorTermination => exact s.turn_terminateAccess _
  case registerWrite => exact s.turn_present_host _ (s.hostTurn_registerAccess _ _)
  case configurationAWrite p v => exact s.turn_present_host _ ⟨p, s.hostTurn_writeConfigA p v⟩
  case configurationBWrite p v => exact s.turn_present_host _ ⟨p, s.hostTurn_writeConfigB p v⟩
  case windowControlWrite e v => exact s.turn_present_host _ ⟨0, (s.samePorts_writeWindowControl e v).hostTurn 0⟩
  case windowBaseWrite e v => exact s.turn_present_host _ ⟨0, (s.samePorts_writeWindowBase e v).hostTurn 0⟩
  case windowRemoteWrite e v => exact s.turn_present_host _ ⟨0, (s.samePorts_writeWindowRemote e v).hostTurn 0⟩
  case discardTimeWrite v => exact s.turn_present_host _ ⟨0, (s.samePorts_writeDiscardTime v).hostTurn 0⟩
  case classMaskWrite v => exact s.turn_present_host _ ⟨0, (s.samePorts_writeClassMask v).hostTurn 0⟩
  case interruptControlWrite v => exact s.turn_present_host _ ⟨0, (s.samePorts_writeInterruptControl v).hostTurn 0⟩
  case requestControlWrite n v => exact s.turn_present_host _ ⟨0, (s.samePorts_writeRequestControl n v).hostTurn 0⟩
  case requestRemoteAddressWrite n v => exact s.turn_present_host _ ⟨0, (s.samePorts_writeRequestRemote n v).hostTurn 0⟩
  case requestDataWrite n k v => exact s.turn_present_host _ ⟨0, (s.samePorts_writeRequestData n k v).hostTurn 0⟩
  case enable p => exact s.turn_presentCommand ⟨p, s.hostTurn_enablePort p⟩
  case disable p => exact s.turn_presentCommand ⟨p, s.hostTurn_disablePort p⟩
  case resume p => exact s.turn_presentCommand ⟨p, s.hostTurn_resumePort p⟩
  case flush p => exact s.turn_presentCommand ⟨p, s.hostTurn_flushPort p⟩
  case restart p => exact s.turn_presentCommand ⟨p, s.hostTurn_restartPort p⟩
  case ackAttention p => exact s.turn_presentCommand ⟨p, s.hostTurn_ackAttention p⟩
  case portCommandUnknown p v => exact s.turn_presentCommand ⟨p, s.hostTurn_portCommand p _⟩
  case submit n => exact s.turn_presentCommand ⟨_, s.hostTurn_submitRequest n⟩
  case cancel n => exact s.turn_presentCommand ⟨_, s.hostTurn_cancelRequest n⟩
  case release n => exact s.turn_presentCommand ⟨0, s.hostTurn_releaseRequest 0 n⟩
  case slotCommandUnknown n v => exact s.turn_presentCommand ⟨_, s.hostTurn_slotCommand n _⟩
  case pop => exact s.turn_presentCommand ⟨0, s.samePorts_popEvent.hostTurn 0⟩
  case eventCommandUnknown v => exact s.turn_presentCommand ⟨0, (s.samePorts_eventCommand _).hostTurn 0⟩
  case chipReset => exact s.turn_presentCommand ⟨0, s.samePorts_dueChipReset.hostTurn 0⟩
  case globalCommandUnknown v => exact s.turn_presentCommand ⟨0, (s.samePorts_globalCommand _).hostTurn 0⟩
  case chipResetTaken =>
    split
    · exact s.turn_chipReset
    · exact State.turn_of_eq rfl id rfl
  case hardwareReset => exact s.turn_hardwareReset
  case resetRelease =>
    split
    · rename_i hr
      exact State.turn_of_eq rfl (fun _ => .inl hr) rfl
    · exact State.turn_of_eq rfl id rfl
  case crcErrorCounterRead => exact s.turn_present_host _ (s.hostTurn_readAccess _)
  case malformedFrameCounterRead => exact s.turn_present_host _ (s.hostTurn_readAccess _)
  case retransmissionCounterRead => exact s.turn_present_host _ (s.hostTurn_readAccess _)
  case staleResponseCounterRead => exact s.turn_present_host _ (s.hostTurn_readAccess _)
  case probeAttemptCounterRead => exact s.turn_present_host _ (s.hostTurn_readAccess _)
  case mirrorLostCounterRead => exact s.turn_present_host _ (s.hostTurn_readAccess _)
  case refusalCounterRead => exact s.turn_present_host _ (s.hostTurn_readAccess _)
  case invalidationCounterRead => exact s.turn_present_host _ (s.hostTurn_readAccess _)
  case ackFrameReceived p _ _ => exact (s.lineTurn_stationFrame p _).turn
  case dataFrameReceived p _ _ _ => exact (s.lineTurn_stationFrame p _).turn
  case rejectFrameReceived p _ _ _ _ => exact (s.lineTurn_stationFrame p _).turn
  case identFrameReceived p _ _ _ _ _ => exact (s.lineTurn_stationFrame p _).turn
  case crcErrorFrame p bs => exact (State.lineTurn_lineBytes p bs s).turn
  case malformedFrame p bs => exact (State.lineTurn_lineBytes p bs s).turn
  case carrierLost p => exact (s.lineTurn_loseCarrier p).turn
  case carrierRegained p => exact (s.lineTurn_regainCarrier p).turn
  case transmissionEnd p => exact (s.lineTurn_endTransmission p).turn
  case responseTimerExpiry p => exact (s.lineTurn_expireResponseTimer p (hq p)).turn
  case busyBackoffEnd p => exact (s.lineTurn_endBackoff p).turn
  case probeResponseWaitExpiry p => exact (s.lineTurn_expireResponseWait p).turn
  case probeIntervalExpiry p => exact (s.lineTurn_expireProbeInterval p).turn
  case reprobeIntervalExpiry p => exact (s.lineTurn_expireReprobeInterval p).turn
  case discardTimerExpiry n =>
    unfold State.expireDiscardTimer
    split
    · exact State.turn_of_eq rfl id rfl
    · split <;> exact State.turn_of_eq rfl id rfl
  case holdoffTimerExpiry => exact State.turn_of_eq rfl id rfl
  case timestampTick => exact State.turn_of_eq rfl id rfl

/-- A step runs the command in front, or idles. -/
theorem step_turn {s t : State} (hq : ∀ p, (s.port p).QueueSound) (h : step s = .next t) : State.Turn s t := by
  unfold step at h
  split at h
  · cases h
    exact State.turn_of_eq rfl id rfl
  · rename_i c rest _
    obtain ⟨ht, hr, hp⟩ | ⟨p, hr, ht, ho, hp⟩ | ⟨a, hr, ha, ht, h1, h2, hp⟩ | ⟨m, a, d, x, hr, hroom, ht, h1, h2, ho, hp⟩ |
      ⟨hn, ht, hp⟩ | ⟨p, d, hn, ht, ho, hp⟩ | ⟨p, hn, ht, ho, hp⟩ | ⟨ht, hp⟩ := exec_turn c { s with pending := rest } t hq h
    · exact .line ht hr hp
    · exact .host p ⟨hr.released, hr.busFree, hr.noResetDue⟩ ht ho hp
    · exact .pass a ⟨hr.released, hr.busFree, hr.noResetDue⟩ ha ht h1 h2 hp
    · exact .reserve m a d x ⟨hr.released, hr.busFree, hr.noResetDue⟩ hroom ht h1 h2 ho hp
    · exact .ended hn ht hp
    · exact .commit p d hn ht ho hp
    · exact .release p hn ht ho hp
    · exact .reset ht hp

end Sys2Proof.Machine
end

section
/-! PROOF. O7: every step keeps the laws of every port's queue and sequencer. -/

namespace Sys2Proof.Machine

@[simp] theorem Record.commit_lane (data : List Byte) (r : Record) : (r.commit data).lane = r.lane := by
  unfold Record.commit
  split <;> rfl

/-- A commit changes the RESERVED record in its place, and adds none (R8). -/
theorem Port.Steady.commitReserved {q : Port} (h : q.Steady) (data : List Byte) : (q.commitReserved data).Steady where
  config := h.config
  quiet hl := by
    obtain ⟨hw, hr, hb, ht⟩ := h.quiet hl
    exact ⟨hw, hr, hb, ht⟩
  sound :=
    { h.sound with
      pool := by simpa [Port.poolCount, Port.commitReserved] using h.sound.pool
      normalLane := by
        intro r hr
        obtain ⟨x, hx, rfl⟩ := List.mem_map.1 hr
        rw [Record.commit_lane]
        exact h.sound.normalLane x hx }

theorem Port.Steady.releaseReserved {q : Port} (h : q.Steady) : q.releaseReserved.Steady :=
  h.sub (List.Sublist.refl _) List.filter_sublist

theorem State.Turn.steady {s t : State} (m : State.Turn s t) (h : ∀ p, (s.port p).Steady) : ∀ p, (t.port p).Steady := by
  have hone : ∀ p, (∀ r, r ≠ p → t.port r = s.port r) → (t.port p).Steady → ∀ r, (t.port r).Steady := by
    intro p ho hp r
    by_cases hr : r = p
    · exact hr ▸ hp
    · rw [ho r hr]; exact h r
  cases m with
  | line _ _ hp => exact fun p => (hp p).steady (h p)
  | host p _ _ ho hp => exact hone p ho (hp.steady (h p))
  | pass a _ _ _ _ _ hp => exact fun p => (hp p).steady (h p)
  | reserve _ _ d m _ hroom _ _ _ ho hp =>
    refine hone m.port ho ?_
    rw [hp]
    exact (h m.port).join hroom Lane.noConfusion
  | ended _ _ hp => exact fun p => by rw [hp p]; exact h p
  | commit p data _ _ ho hp => exact hone p ho (by rw [hp]; exact ((h p).commitReserved data).arbitrate)
  | release p _ _ ho hp => exact hone p ho (by rw [hp]; exact (h p).releaseReserved)
  | reset _ hp =>
    intro p
    obtain ⟨c, hc, e⟩ := hp p
    rw [e]
    obtain rfl | rfl := hc
    · exact Port.resetWith_steady _ (h p).config
    · exact Port.resetWith_steady _ PortConfig.reset_inRange

/-- Settles O7: a step is a turn, and each move of a port keeps it steady. -/
theorem queueLawsKept : Obligations.QueueLawsKept := fun _ _ hs h p =>
  ((step_turn hs.queues h).steady hs.steady p).sound

end Sys2Proof.Machine
end

section
/-! PROOF. O10: every step keeps the reservation law. -/

namespace Sys2Proof.Machine

/-! ## The RESERVED record of one lane -/

/-- The RESERVED records of a port's NORMAL lane are `l`, and no record stands behind one (R8). -/
structure Port.ReservesLast (q : Port) (l : List Record) : Prop where
  reserved : q.normal.filter Record.reserved = l
  last : q.normal.Pairwise (fun a _ => a.reserved = false)

/-- Only the last record of a lane can be RESERVED exactly when each record with another behind it is not. -/
theorem dropLast_unreserved_iff (l : List Record) :
    (∀ r ∈ l.dropLast, r.reserved = false) ↔ l.Pairwise (fun a _ => a.reserved = false) := by
  induction l with
  | nil => simp
  | cons x l ih =>
    cases l with
    | nil => simp
    | cons y l =>
      rw [List.dropLast_cons_cons, List.forall_mem_cons, ih, List.pairwise_cons (a := x)]
      simp only [List.mem_cons, forall_eq_or_imp]
      exact and_congr_left fun _ => ⟨fun h => ⟨h, fun _ _ => h⟩, fun h => h.1⟩

theorem Port.reservesLast_nil {q : Port} : q.ReservesLast [] ↔ ∀ r ∈ q.normal, r.reserved = false := by
  constructor
  · intro h r hr
    simpa using List.filter_eq_nil_iff.1 h.reserved r hr
  · exact fun h => ⟨List.filter_eq_nil_iff.2 (by simpa using h), List.pairwise_of_forall_mem_list fun a ha _ _ => h a ha⟩

/-- A part of a lane that keeps every RESERVED record keeps its place. -/
theorem Port.ReservesLast.sub {q q' : Port} {l : List Record} (h : q.ReservesLast l) (hs : q'.normal.Sublist q.normal)
    (hf : q'.normal.filter Record.reserved = q.normal.filter Record.reserved) : q'.ReservesLast l :=
  ⟨hf.trans h.reserved, h.last.sublist hs⟩

theorem Port.ReservesLast.of_normal {q q' : Port} {l : List Record} (h : q.ReservesLast l) (e : q'.normal = q.normal) :
    q'.ReservesLast l := h.sub (by rw [e]) (by rw [e])

theorem Port.normal_of_core {q q' : Port} (e : q'.core = q.core) : q'.normal = q.normal := by
  simp only [Port.core, Prod.mk.injEq] at e
  exact e.1.2.1

theorem Port.enterProbing_normal (q : Port) (now : Nat) : (q.enterProbing now).normal = q.normal :=
  Port.normal_of_core (q := { q with link := .probing }) (q.enterProbing_core now)

/-- The hold removal takes QUEUED records alone. -/
theorem filter_reserved_heldBack (l : List Record) :
    (l.filter (fun r => !r.heldBack)).filter Record.reserved = l.filter Record.reserved := by
  rw [List.filter_filter]
  apply List.filter_congr
  intro r _
  rw [Record.heldBack_eq]
  cases r.isRead <;> cases r.reserved <;> rfl

theorem Port.ReservesLast.hold {q : Port} {l : List Record} (h : q.ReservesLast l) : q.hold.ReservesLast l :=
  h.sub List.filter_sublist (filter_reserved_heldBack _)

/-- Records that return to the front of the lane are not RESERVED, since none such is issued (R12, R14). -/
theorem Port.ReservesLast.returnWindow {q : Port} {l : List Record} (h : q.ReservesLast l)
    (hi : ∀ w ∈ q.window, w.record.reserved = false) : q.returnWindow.ReservesLast l := by
  have hback : ∀ r ∈ (q.window.map Sent.returned).filter (fun r => r.lane == .normal), r.reserved = false := by
    intro r hr
    obtain ⟨w, hw, rfl⟩ := List.mem_map.1 (List.mem_filter.1 hr).1
    exact hi w hw
  constructor
  · simp only [Port.returnWindow, List.filter_append]
    rw [List.filter_eq_nil_iff.2 (by simpa using hback), List.nil_append, h.reserved]
  · simp only [Port.returnWindow]
    rw [List.pairwise_append]
    exact ⟨List.pairwise_of_forall_mem_list fun a ha _ _ => hback a ha, h.last, fun a ha _ _ => hback a ha⟩

theorem Port.ReservesLast.lost {q : Port} {l : List Record} (h : q.ReservesLast l)
    (hi : ∀ w ∈ q.window, w.record.reserved = false) (cause : Cause) (now : Nat) : (q.lost cause now).ReservesLast l :=
  ((h.returnWindow hi).of_normal (q' := (q.returnWindow.clearSequencer).becomeLost cause now) rfl).hold

/-- The head of a lane that the arbiter issues is not RESERVED. -/
theorem Port.ReservesLast.arbitrate {q : Port} {l : List Record} (h : q.ReservesLast l) : q.arbitrate.ReservesLast l := by
  obtain e | ⟨-, -, -, w, -, e⟩ | ⟨-, -, -, e⟩ | ⟨-, -, -, -, -, r, rest, -, -, e⟩ |
    ⟨-, -, -, -, -, -, r, rest, hq, hr, e⟩ := q.arbitrate_cases <;> rw [e]
  · exact h
  · exact h.of_normal rfl
  · exact h.of_normal rfl
  · exact h.of_normal rfl
  · refine h.sub ?_ ?_
    · rw [hq]; exact List.sublist_cons_self _ _
    · simp [Port.issue, hq, hr]

theorem Port.LineMove.reservesLast {q q' : Port} {l : List Record} (m : q.LineMove q')
    (hi : ∀ w ∈ q.window, w.record.reserved = false) (h : q.ReservesLast l) : q'.ReservesLast l := by
  cases m with
  | aside m => exact h.of_normal (Port.normal_of_core m.core)
  | arbitrate => exact h.arbitrate
  | hold => exact h.hold
  | lose cause now => exact h.lost hi cause now
  | complete w rest x now =>
    obtain ⟨done, drop, e⟩ := q.dropOldest.counted_eq w.record x
    rw [e]
    refine h.of_normal ?_
    unfold Port.afterCompletion
    dsimp only
    split <;> rfl
  | exhaust w rest cause now =>
    obtain ⟨done, drop, e⟩ := q.dropOldest.counted_eq w.record (.failed cause w.seq)
    rw [e]
    exact Port.ReservesLast.lost (q := { q.dropOldest with postedDone := done, postedDrop := drop }) (h.of_normal rfl)
      (fun x hx => hi x (List.mem_of_mem_tail hx)) cause now
  | retry w rest hw => exact h.of_normal (by simp [Port.raiseRetry, Port.beginRun, hw])
  | beginBackoff w rest now hw => exact h.of_normal (by simp [Port.beginBackoff, hw])
  | endFrame x now =>
    refine h.of_normal ?_
    unfold Port.reportEnd
    split
    · split <;> rfl
    · split <;> rfl
  | stopTimer => exact h.of_normal rfl
  | endBackoff => exact h.of_normal rfl
  | reprobe now => exact h.of_normal (q.enterProbing_normal now)
  | acceptIdent => exact h.of_normal rfl

theorem Port.LineMoves.reservesLast {q q' : Port} {l : List Record} (m : q.LineMoves q') (hs : q.Steady)
    (h : q.ReservesLast l) : q'.ReservesLast l := by
  suffices q'.Steady ∧ q'.ReservesLast l from this.2
  induction m with
  | refl => exact ⟨hs, h⟩
  | tail _ m ih => exact ⟨m.steady ih.1, m.reservesLast ih.1.sound.issued ih.2⟩

/-- A record that joins the NORMAL lane stands last in it. -/
theorem Port.join_normal (q : Port) (r : Record) :
    (q.join r).normal = q.normal ++ if r.lane = .normal then [r] else [] := by
  unfold Port.join
  cases r.lane <;> simp

/-- While no record is RESERVED, no move of a host access makes one: only a reservation does. -/
theorem Port.HostMove.reservesNone {q q' : Port} (m : q.HostMove q') (h : q.ReservesLast []) : q'.ReservesLast [] := by
  have hjoin : ∀ r : Record, r.reserved = false → (q.join r).ReservesLast [] := by
    intro r hr
    rw [Port.reservesLast_nil] at h ⊢
    rw [Port.join_normal]
    intro x hx
    obtain hx | hx := List.mem_append.1 hx
    · exact h x hx
    · split at hx
      · rw [List.mem_singleton.1 hx]; exact hr
      · cases hx
  have hsub : ∀ x : Port, x.normal.Sublist q.normal → x.ReservesLast [] := fun x hx =>
    Port.reservesLast_nil.2 fun r hr => Port.reservesLast_nil.1 h r (hx.subset hr)
  cases m with
  | configure c v => exact h.of_normal rfl
  | enable now => exact h.of_normal (Port.enterProbing_normal _ now)
  | disable => exact hsub _ (List.nil_sublist _)
  | resume => exact h.of_normal rfl
  | flush => exact hsub _ List.filter_sublist
  | join r _ _ hr => exact hjoin r hr
  | joinPosted remote d => exact (hjoin (postedRecord remote d) rfl).of_normal rfl
  | withdraw n => exact hsub _ List.filter_sublist

theorem Port.HostTurn.reservesNone {q q' : Port} (m : q.HostTurn q') (hs : q.Steady) (h : q.ReservesLast []) :
    q'.ReservesLast [] := by
  obtain m | ⟨x, m, rfl | rfl⟩ := m
  · exact m.reservesLast hs h
  · exact m.reservesNone h
  · exact (m.reservesNone h).arbitrate

/-! ## The access in progress -/

theorem HostTarget.reservedFor_of_unmirrored {t : HostTarget} (h : ∀ a, t.access = some a → a.mirror = none) (p : PortId) :
    t.reservedFor p = [] := by
  unfold HostTarget.reservedFor
  split
  · rename_i m a d x hx
    cases h _ hx
  · rfl

/-- The law of one port's lane, with the record the access in progress gives it. -/
theorem State.ReservationLaw.reservesLast {s : State} (h : s.ReservationLaw) (p : PortId) :
    (s.port p).ReservesLast (s.target.reservedFor p) := ⟨h.reserved p, (dropLast_unreserved_iff _).1 (h.last p)⟩

/-- Without an access in progress no lane holds a RESERVED record. -/
theorem State.ReservationLaw.reservesNone {s : State} (h : s.ReservationLaw) (hb : s.target.access = none) (p : PortId) :
    (s.port p).ReservesLast [] := by
  have := h.reservesLast p
  rwa [HostTarget.reservedFor_of_unmirrored (fun a ha => by rw [hb] at ha; cases ha)] at this

/-- The reservation mark stands for an access with a mirror target. -/
theorem State.ReservationLaw.mirrored {s : State} (h : s.ReservationLaw) {p : PortId} (hp : s.target.reservation = some p) :
    ∃ a m, s.target.access = some a ∧ a.mirror = some m ∧ m.port = p := by
  have hm := h.mark
  rw [hp] at hm
  obtain ⟨a, ha, hm⟩ := Option.bind_eq_some_iff.1 hm.symm
  obtain ⟨m, hmirror, rfl⟩ := Option.map_eq_some_iff.1 hm
  exact ⟨a, m, ha, hmirror, rfl⟩

/-- A reservation holds no record at another port. -/
theorem State.ReservationLaw.reservesNone_of_ne {s : State} (h : s.ReservationLaw) {p r : PortId}
    (hp : s.target.reservation = some p) (hr : r ≠ p) : (s.port r).ReservesLast [] := by
  obtain ⟨a, m, ha, hm, rfl⟩ := h.mirrored hp
  have := h.reservesLast r
  unfold HostTarget.reservedFor at this
  rw [ha] at this
  obtain ⟨master, addr, kind, mirror⟩ := a
  cases hm
  cases kind with
  | read z => exact this
  | write d => simpa [Ne.symm hr] using this

/-- A target that holds no reservation, over lanes that hold no RESERVED record, is lawful. -/
theorem State.reservationLaw_of_none {t : State} (hp : ∀ p, (t.port p).ReservesLast [])
    (ha : ∀ a, t.target.access = some a → a.mirror = none) (hm : t.target.reservation = none)
    (hc : t.target.captured = none)
    (ho : t.resetAsserted = true ∨ t.chipResetDue = true → t.target.access = none) : t.ReservationLaw where
  reserved p := by
    rw [HostTarget.reservedFor_of_unmirrored ha]
    exact (hp p).reserved
  last p := (dropLast_unreserved_iff _).2 (hp p).last
  mark := by
    rw [hm]
    cases h : t.target.access with
    | none => rfl
    | some a => simp [ha a h]
  captured := hc
  write a h hs := by simp [ha a h] at hs
  outside := ho

/-! ## Every turn -/

theorem State.ReservationLaw.no_mark {s : State} (h : s.ReservationLaw) (hb : s.target.access = none) :
    s.target.reservation = none := by rw [h.mark, hb]; rfl

theorem State.Turn.reservationLaw {s t : State} (m : State.Turn s t) (hs : ∀ p, (s.port p).Steady) (h : s.ReservationLaw) :
    t.ReservationLaw := by
  have hnone : ∀ p x : PortId, (s.port x).ReservesLast [] → (∀ r, r ≠ p → t.port r = s.port r) →
      (t.port p).ReservesLast [] → (t.port x).ReservesLast [] := by
    intro p x hx ho hp
    by_cases hxp : x = p
    · exact hxp ▸ hp
    · rw [ho x hxp]; exact hx
  cases m with
  | line ht ho hp =>
    have hl := fun p => (hp p).reservesLast (hs p) (h.reservesLast p)
    exact ⟨fun p => by rw [ht]; exact (hl p).reserved, fun p => (dropLast_unreserved_iff _).2 (hl p).last,
      by rw [ht]; exact h.mark, by rw [ht]; exact h.captured, by rw [ht]; exact h.write, fun hr => by rw [ht]; exact h.outside (ho hr)⟩
  | host p hr ht ho hp =>
    have hb : t.target.access = none := by rw [ht]; exact hr.busFree
    have hl := h.reservesNone hr.busFree
    exact State.reservationLaw_of_none (fun x => hnone p x (hl x) ho (hp.reservesNone (hs p) (hl p)))
      (fun a ha => by rw [hb] at ha; cases ha) (by rw [ht]; exact h.no_mark hr.busFree) (by rw [ht]; exact h.captured)
      (fun _ => hb)
  | pass a hr ha ht h1 h2 hp =>
    refine State.reservationLaw_of_none (fun p => (hp p).reservesLast (hs p) (h.reservesNone hr.busFree p)) ?_ ?_ ?_ ?_
    · rw [ht]
      rintro x ⟨⟩
      exact ha
    · rw [ht]; exact h.no_mark hr.busFree
    · rw [ht]; exact h.captured
    · simp [h1, h2]
  | reserve master addr d m hr hroom ht h1 h2 ho hp =>
    have hl := h.reservesNone hr.busFree
    have hq : ∀ p, (t.port p).ReservesLast (t.target.reservedFor p) := by
      intro p
      rw [ht]
      unfold HostTarget.reservedFor
      by_cases hpm : m.port = p
      · subst hpm
        have hn := Port.reservesLast_nil.1 (hl m.port)
        have hlane : (t.port m.port).normal = (s.port m.port).normal ++ [reservedRecord m.remote d] := by
          rw [hp, Port.join_normal]
          rfl
        simp only [if_true]
        refine ⟨?_, ?_⟩
        · rw [hlane, List.filter_append, (hl m.port).reserved]
          rfl
        · rw [hlane, List.pairwise_append]
          exact ⟨(hl m.port).last, List.pairwise_singleton _ _, fun a ha _ _ => hn a ha⟩
      · simp only [hpm, if_false]
        rw [ho p (Ne.symm hpm)]
        exact hl p
    exact ⟨fun p => (hq p).reserved, fun p => (dropLast_unreserved_iff _).2 (hq p).last, by rw [ht]; rfl, by rw [ht],
      fun a ha _ => by rw [ht] at ha; cases ha; exact ⟨d, rfl⟩, by simp [h1, h2]⟩
  | ended hn ht hp =>
    have ha : ∀ a, s.target.access = some a → a.mirror = none := by
      intro a ha
      have := h.mark
      rw [hn, ha] at this
      simpa using this.symm
    refine State.reservationLaw_of_none (fun p => ?_) (by rw [ht]; simp) (by rw [ht]; exact hn)
      (by rw [ht]; exact h.captured) (fun _ => by rw [ht])
    rw [hp p, ← HostTarget.reservedFor_of_unmirrored ha p]
    exact h.reservesLast p
  | commit p data hm ht ho hp =>
    refine State.reservationLaw_of_none (fun x => ?_) (by rw [ht]; simp [HostTarget.reset]) (by rw [ht]; rfl)
      (by rw [ht]; rfl) (fun _ => by rw [ht]; rfl)
    by_cases hx : x = p
    · subst hx
      rw [hp]
      refine Port.ReservesLast.arbitrate (Port.reservesLast_nil.2 fun r hr => ?_)
      obtain ⟨y, -, rfl⟩ := List.mem_map.1 hr
      unfold Record.commit
      split
      · rfl
      · rename_i hy; simpa using hy
    · rw [ho x hx]; exact h.reservesNone_of_ne hm hx
  | release p hm ht ho hp =>
    refine State.reservationLaw_of_none (fun x => ?_) (by rw [ht]; simp [HostTarget.reset]) (by rw [ht]; rfl)
      (by rw [ht]; rfl) (fun _ => by rw [ht]; rfl)
    by_cases hx : x = p
    · subst hx
      rw [hp]
      refine Port.reservesLast_nil.2 fun r hr => ?_
      have := (List.mem_filter.1 hr).2
      simpa [Record.queued] using this
    · rw [ho x hx]; exact h.reservesNone_of_ne hm hx
  | reset ht hp =>
    refine State.reservationLaw_of_none (fun x => ?_) (by rw [ht]; simp [HostTarget.reset]) (by rw [ht]; rfl)
      (by rw [ht]; rfl) (fun _ => by rw [ht]; rfl)
    obtain ⟨c, -, e⟩ := hp x
    rw [e]
    exact Port.reservesLast_nil.2 (by simp [Port.resetWith])

/-- Settles O10: a step is a turn; the moves of the line leave the RESERVED record in its place, a host access comes only while
there is none, and a reservation, a commit and a release change it with its mark. -/
theorem reservationLawKept : Obligations.ReservationLawKept := fun _ _ hs h =>
  (step_turn hs.queues h).reservationLaw hs.steady hs.reservation

end Sys2Proof.Machine
end

section
/-! PROOF. O13: every step keeps the account of the posted-write counters. -/

namespace Sys2Proof.Machine

/-! ## Counting POSTED records -/

/-- The POSTED records of a list that are not RESERVED. -/
def postedCount (l : List Record) : Nat := (l.filter (fun r => r.source == .posted && r.queued)).length

@[simp] theorem postedCount_nil : postedCount [] = 0 := rfl

@[simp] theorem postedCount_append (a b : List Record) : postedCount (a ++ b) = postedCount a + postedCount b := by
  simp [postedCount]

theorem postedCount_cons (r : Record) (l : List Record) : postedCount (r :: l) = postedCount [r] + postedCount l :=
  postedCount_append [r] l

theorem postedCount_singleton (r : Record) :
    postedCount [r] = if r.source = .posted ∧ r.reserved = false then 1 else 0 := by
  unfold postedCount Record.queued
  by_cases h1 : r.source = .posted <;> cases h2 : r.reserved <;> simp [h1, h2]

/-- A removal of records that are not POSTED, or are RESERVED, does not count. -/
theorem postedCount_filter (l : List Record) (f : Record → Bool)
    (h : ∀ r ∈ l, f r = false → ¬ (r.source = .posted ∧ r.reserved = false)) : postedCount (l.filter f) = postedCount l := by
  unfold postedCount
  rw [List.filter_filter]
  congr 1
  apply List.filter_congr
  intro r hr
  cases hf : f r with
  | true => simp
  | false =>
    have := h r hr hf
    simpa [Record.queued] using this

/-- A lane split into the two lanes of its records counts as much. -/
theorem postedCount_lanes (l : List Record) :
    postedCount (l.filter (fun r => r.lane == .priority)) + postedCount (l.filter (fun r => r.lane == .normal)) =
      postedCount l := by
  induction l with
  | nil => rfl
  | cons r l ih =>
    rw [postedCount_cons r l, ← ih]
    cases hr : r.lane
    · rw [List.filter_cons_of_pos (by simp [hr]), List.filter_cons_of_neg (by simp [hr]), postedCount_cons]
      omega
    · rw [List.filter_cons_of_neg (by simp [hr]), List.filter_cons_of_pos (by simp [hr]), postedCount_cons]
      omega

/-- What a flush counts as dropped are the POSTED records it removes. -/
theorem posted_of_queued (l : List Record) :
    ((l.filter Record.queued).filter (fun r => r.source == .posted)).length = postedCount l := by
  rw [List.filter_filter]
  rfl

/-- A commit turns each RESERVED record, all of them POSTED, into one that counts. -/
theorem postedCount_commit (data : List Byte) (l : List Record) (h : ∀ r ∈ l.filter Record.reserved, r.source = .posted) :
    postedCount (l.map (Record.commit data)) = postedCount l + (l.filter Record.reserved).length := by
  induction l with
  | nil => rfl
  | cons r l ih =>
    have hl : ∀ r ∈ l.filter Record.reserved, r.source = .posted := fun x hx =>
      h x (((List.sublist_cons_self r l).filter _).subset hx)
    rw [List.map_cons, postedCount_cons, ih hl, postedCount_cons r l, postedCount_singleton, postedCount_singleton]
    cases hr : r.reserved with
    | false => simp [Record.commit, hr]; omega
    | true =>
      have hs : r.source = .posted := h r (by simp [hr])
      simp [Record.commit, hr, hs]
      omega

theorem Port.postedHeld_eq (q : Port) :
    q.postedHeld = postedCount (q.window.map Sent.record) + postedCount q.priority + postedCount q.normal := by
  rw [← postedCount_append, ← postedCount_append]
  rfl

/-! ## The account of one port -/

theorem word_ofNat_succ (n : Nat) : BitVec.ofNat 32 (n + 1) = BitVec.ofNat 32 n + (1 : Word) := BitVec.ofNat_add ..

/-- The posted-write counters of a port account for its POSTED records (R16). -/
def Port.Accounted (q : Port) : Prop := q.postedIn - q.postedDone - q.postedDrop = BitVec.ofNat 32 q.postedHeld

/-- The same counters over as many POSTED records keep the account. -/
theorem Port.Accounted.of_held {q q' : Port} (h : q.Accounted)
    (hc : (q'.postedIn, q'.postedDone, q'.postedDrop) = (q.postedIn, q.postedDone, q.postedDrop))
    (hh : q'.postedHeld = q.postedHeld) : q'.Accounted := by
  simp only [Prod.mk.injEq] at hc
  obtain ⟨e1, e2, e3⟩ := hc
  unfold Port.Accounted
  rw [e1, e2, e3, hh]
  exact h

theorem Port.Accounted.of_core {q q' : Port} (h : q.Accounted) (e : q'.core = q.core) : q'.Accounted := by
  simp only [Port.core, Prod.mk.injEq] at e
  obtain ⟨⟨e1, e2, e3, e4, e5⟩, ⟨e6, -⟩, -⟩ := e
  refine h.of_held (by rw [e3, e4, e5]) ?_
  rw [Port.postedHeld_eq, Port.postedHeld_eq, e1, e2, e6]

/-- A dropped record that counted, or did not, and its outcome (R16, R62). -/
theorem Port.Accounted.counted {q : Port} {w : Sent} {rest : List Sent} (h : q.Accounted) (hw : q.window = w :: rest)
    (hi : w.record.reserved = false) (l : Leaving) : (q.dropOldest.counted w.record l).Accounted := by
  have hheld : q.postedHeld = q.dropOldest.postedHeld + postedCount [w.record] := by
    rw [Port.postedHeld_eq, Port.postedHeld_eq]
    simp only [Port.dropOldest, hw, List.map_cons, List.tail_cons]
    rw [postedCount_cons]
    omega
  rw [postedCount_singleton] at hheld
  by_cases hp : w.record.source = .posted
  · rw [if_pos ⟨hp, hi⟩] at hheld
    unfold Port.Accounted at h
    rw [hheld, word_ofNat_succ] at h
    have hcases : ∀ done drop : Word, done + drop = q.postedDone + q.postedDrop + 1 →
        Port.Accounted { q.dropOldest with postedDone := done, postedDrop := drop } := by
      intro done drop hsum
      show q.postedIn - done - drop = BitVec.ofNat 32 q.dropOldest.postedHeld
      linear_combination h - hsum
    unfold Port.counted
    rw [if_pos hp]
    cases l with
    | ok d => exact hcases (q.postedDone + 1) q.postedDrop (by ring)
    | refused c n => exact hcases q.postedDone (q.postedDrop + 1) (by ring)
    | failed c n => exact hcases q.postedDone (q.postedDrop + 1) (by ring)
    | removed c => exact hcases q.postedDone (q.postedDrop + 1) (by ring)
  · rw [if_neg fun hc => hp hc.1, Nat.add_zero] at hheld
    unfold Port.counted
    rw [if_neg hp]
    exact h.of_held rfl hheld.symm

theorem Port.hold_held (q : Port) : q.hold.postedHeld = q.postedHeld := by
  rw [Port.postedHeld_eq, Port.postedHeld_eq]
  have : postedCount q.hold.normal = postedCount q.normal := by
    refine postedCount_filter _ _ fun r _ hr hp => ?_
    have := Record.heldBack_not_posted (r := r) (by simpa using hr)
    simp [hp.1] at this
  rw [this]
  rfl

/-- The records that return to their lanes count there as they did in the window (R14). -/
theorem Port.returnWindow_held (q : Port) : q.returnWindow.postedHeld = q.postedHeld := by
  have := postedCount_lanes (q.window.map Sent.record)
  rw [Port.postedHeld_eq, Port.postedHeld_eq]
  simp only [Port.returnWindow, List.map_nil, postedCount_nil, postedCount_append]
  show 0 + (postedCount ((q.window.map Sent.record).filter (fun r => r.lane == .priority)) + _) +
    (postedCount ((q.window.map Sent.record).filter (fun r => r.lane == .normal)) + _) = _
  omega

theorem Port.Accounted.lost {q : Port} (h : q.Accounted) (cause : Cause) (now : Nat) : (q.lost cause now).Accounted :=
  h.of_held rfl ((Port.hold_held _).trans q.returnWindow_held)

theorem Port.issue_held (q : Port) (r : Record) (ps ns : List Record)
    (h : postedCount [r] + postedCount ps + postedCount ns = postedCount q.priority + postedCount q.normal) :
    (Port.issue { q with priority := ps, normal := ns } r).postedHeld = q.postedHeld := by
  rw [Port.postedHeld_eq, Port.postedHeld_eq]
  simp only [Port.issue, List.map_append, List.map_cons, List.map_nil, postedCount_append]
  omega

theorem Port.Accounted.arbitrate {q : Port} (h : q.Accounted) : q.arbitrate.Accounted := by
  obtain e | ⟨-, -, -, w, -, e⟩ | ⟨-, -, -, e⟩ | ⟨-, -, -, -, -, r, rest, hq, -, e⟩ |
    ⟨-, -, -, -, -, -, r, rest, hq, -, e⟩ := q.arbitrate_cases <;> rw [e]
  · exact h
  · exact h.of_held rfl rfl
  · exact h.of_core rfl
  · exact h.of_held rfl (q.issue_held r rest q.normal (by rw [hq, postedCount_cons r rest]))
  · refine h.of_held rfl (q.issue_held r q.priority rest ?_)
    rw [hq, postedCount_cons r rest]
    omega

theorem Port.LineMove.accounted {q q' : Port} (m : q.LineMove q') (hi : ∀ w ∈ q.window, w.record.reserved = false)
    (h : q.Accounted) : q'.Accounted := by
  cases m with
  | aside m => exact h.of_core m.core
  | arbitrate => exact h.arbitrate
  | hold => exact h.of_held rfl q.hold_held
  | lose cause now => exact h.lost cause now
  | complete w rest l now hw =>
    have hc := h.counted hw (hi w (by rw [hw]; exact List.mem_cons_self ..)) l
    unfold Port.afterCompletion
    dsimp only
    split <;> exact hc.of_held rfl rfl
  | exhaust w rest cause now hw =>
    exact (h.counted hw (hi w (by rw [hw]; exact List.mem_cons_self ..)) _).lost cause now
  | retry w rest hw =>
    exact h.of_held (by simp [Port.raiseRetry, Port.beginRun, hw])
      (by simp [Port.postedHeld_eq, Port.raiseRetry, Port.beginRun, hw])
  | beginBackoff w rest now hw =>
    exact h.of_held (by simp [Port.beginBackoff, hw]) (by simp [Port.postedHeld_eq, Port.beginBackoff, hw])
  | endFrame x now =>
    unfold Port.reportEnd
    split
    · split <;> exact h.of_held rfl rfl
    · split <;> exact h.of_held rfl rfl
  | stopTimer => exact h.of_held rfl rfl
  | endBackoff => exact h.of_held rfl rfl
  | reprobe now =>
    exact (h.of_held rfl rfl : Port.Accounted { q with link := .probing }).of_core (q.enterProbing_core now)
  | acceptIdent => exact h.of_held rfl rfl

theorem Port.LineMoves.accounted {q q' : Port} (m : q.LineMoves q') (hs : q.Steady) (h : q.Accounted) : q'.Accounted := by
  suffices q'.Steady ∧ q'.Accounted from this.2
  induction m with
  | refl => exact ⟨hs, h⟩
  | tail _ m ih => exact ⟨m.steady ih.1, m.accounted ih.1.sound.issued ih.2⟩

/-! ## Host accesses -/

theorem Port.join_held (q : Port) (r : Record) : (q.join r).postedHeld = postedCount [r] + q.postedHeld := by
  rw [Port.postedHeld_eq, Port.postedHeld_eq]
  unfold Port.join
  cases r.lane <;> simp only [postedCount_append] <;> omega

/-- A removal that takes `n` POSTED records and counts as many dropped keeps the account (R15). -/
theorem Port.Accounted.dropPosted {q q' : Port} (h : q.Accounted) (rs : List Record)
    (hc : (q'.postedIn, q'.postedDone, q'.postedDrop) = (q.postedIn, q.postedDone, q.postedDrop))
    (hh : q'.postedHeld + (rs.filter (fun r => r.source == .posted)).length = q.postedHeld) :
    (q'.dropPosted rs).Accounted := by
  simp only [Prod.mk.injEq] at hc
  obtain ⟨e1, e2, e3⟩ := hc
  unfold Port.Accounted at h ⊢
  rw [← hh, BitVec.ofNat_add] at h
  show q'.postedIn - q'.postedDone - (q'.postedDrop + _) = BitVec.ofNat 32 q'.postedHeld
  rw [e1, e2, e3]
  linear_combination h

theorem Port.HostMove.accounted {q q' : Port} (m : q.HostMove q') (hs : q.Steady) (h : q.Accounted) : q'.Accounted := by
  cases m with
  | configure c v => exact h.of_held rfl rfl
  | enable now =>
    exact (h.of_held rfl rfl : Port.Accounted { q with nextSeq := 0, receiver := .hunt false, link := .probing }).of_core
      (Port.enterProbing_core { q with nextSeq := 0, receiver := .hunt false } now)
  | disable =>
    refine h.dropPosted _ rfl ?_
    have hwin : (q.window.map Sent.record).filter Record.queued = q.window.map Sent.record := by
      refine List.filter_eq_self.2 fun r hr => ?_
      obtain ⟨w, hw, rfl⟩ := List.mem_map.1 hr
      simp [Record.queued, hs.sound.issued w hw]
    rw [Port.allRecords, Port.queuedRecords, ← hwin, ← List.filter_append, ← List.filter_append, posted_of_queued,
      postedCount_append, postedCount_append, Port.postedHeld_eq, Port.postedHeld_eq]
    simp only [Port.tornDown, Port.resetWith, List.map_nil, postedCount_nil]
    omega
  | resume => exact h.of_held rfl rfl
  | flush =>
    refine h.dropPosted _ rfl ?_
    have hleft : ∀ l : List Record, postedCount (l.filter (fun r => !r.queued)) = 0 := by
      intro l
      simp [postedCount, List.filter_filter]
    rw [Port.queuedRecords, ← List.filter_append, posted_of_queued, postedCount_append, Port.postedHeld_eq,
      Port.postedHeld_eq]
    show postedCount (q.window.map Sent.record) + postedCount (q.priority.filter _) + postedCount (q.normal.filter _) + _ = _
    rw [hleft, hleft]
    omega
  | join r _ hp =>
    refine h.of_held ?_ ?_
    · unfold Port.join
      cases r.lane <;> rfl
    · rw [Port.join_held, postedCount_singleton, if_neg fun hc => hp hc.1, Nat.zero_add]
  | joinPosted remote d =>
    have hj := q.join_held (postedRecord remote d)
    rw [postedCount_singleton, if_pos ⟨rfl, rfl⟩, Nat.add_comm] at hj
    unfold Port.Accounted at h ⊢
    show q.postedIn + 1 - q.postedDone - q.postedDrop = BitVec.ofNat 32 (q.join (postedRecord remote d)).postedHeld
    rw [hj, word_ofNat_succ]
    linear_combination h
  | withdraw n =>
    have hleft : ∀ l : List Record, postedCount (l.filter (fun r => !r.queuedFor n)) = postedCount l := fun l =>
      postedCount_filter _ _ fun r _ hr hp => by simp [Record.queuedFor, hp.1] at hr
    refine h.of_held rfl ?_
    rw [Port.postedHeld_eq, Port.postedHeld_eq]
    show _ + postedCount (q.priority.filter _) + postedCount (q.normal.filter _) = _
    rw [hleft, hleft]
    rfl

theorem Port.HostTurn.accounted {q q' : Port} (m : q.HostTurn q') (hs : q.Steady) (h : q.Accounted) : q'.Accounted := by
  obtain m | ⟨x, m, rfl | rfl⟩ := m
  · exact m.accounted hs h
  · exact m.accounted hs h
  · exact (m.accounted hs h).arbitrate

/-! ## Commit, release and reset -/

/-- The port that the reservation mark names holds one RESERVED record, a POSTED one. -/
theorem State.ReservationLaw.reservesOne {s : State} (h : s.ReservationLaw) {p : PortId}
    (hp : s.target.reservation = some p) : ∃ remote d, (s.port p).ReservesLast [reservedRecord remote d] := by
  obtain ⟨a, m, ha, hm, rfl⟩ := h.mirrored hp
  obtain ⟨d, hd⟩ := h.write a ha (by rw [hm]; rfl)
  have := h.reservesLast m.port
  unfold HostTarget.reservedFor at this
  rw [ha] at this
  obtain ⟨master, addr, kind, mirror⟩ := a
  cases hm
  cases hd
  exact ⟨m.remote, d, by simpa using this⟩

theorem Port.Accounted.commitReserved {q : Port} (h : q.Accounted) {remote : Word} {d : WriteData}
    (hr : q.ReservesLast [reservedRecord remote d]) (data : List Byte) : (q.commitReserved data).Accounted := by
  have hc := postedCount_commit data q.normal (by rw [hr.reserved]; simp [reservedRecord])
  rw [hr.reserved, List.length_singleton] at hc
  have hheld : (q.commitReserved data).postedHeld = q.postedHeld + 1 := by
    rw [Port.postedHeld_eq, Port.postedHeld_eq]
    simp only [Port.commitReserved]
    omega
  unfold Port.Accounted at h ⊢
  rw [hheld, word_ofNat_succ]
  show q.postedIn + 1 - q.postedDone - q.postedDrop = _
  linear_combination h

theorem Port.Accounted.releaseReserved {q : Port} (h : q.Accounted) : q.releaseReserved.Accounted := by
  refine h.of_held rfl ?_
  have : postedCount q.releaseReserved.normal = postedCount q.normal :=
    postedCount_filter _ _ fun r _ hr hp => by simp [Record.queued, hp.2] at hr
  rw [Port.postedHeld_eq, Port.postedHeld_eq, this]
  rfl

theorem Port.resetWith_accounted (carrier : Bool) (c : PortConfig) : (Port.resetWith carrier c).Accounted := by
  simp [Port.Accounted, Port.resetWith, Port.postedHeld, Port.pool]

theorem State.Turn.accounted {s t : State} (m : State.Turn s t) (hs : ∀ p, (s.port p).Steady) (hr : s.ReservationLaw)
    (h : ∀ p, (s.port p).Accounted) : ∀ p, (t.port p).Accounted := by
  have hone : ∀ p, (∀ r, r ≠ p → t.port r = s.port r) → (t.port p).Accounted → ∀ r, (t.port r).Accounted := by
    intro p ho hp r
    by_cases hr : r = p
    · exact hr ▸ hp
    · rw [ho r hr]; exact h r
  cases m with
  | line _ _ hp => exact fun p => (hp p).accounted (hs p) (h p)
  | host p _ _ ho hp => exact hone p ho (hp.accounted (hs p) (h p))
  | pass a _ _ _ _ _ hp => exact fun p => (hp p).accounted (hs p) (h p)
  | reserve _ _ d m _ _ _ _ _ ho hp =>
    refine hone m.port ho ?_
    rw [hp]
    refine (h m.port).of_held rfl ?_
    rw [Port.join_held, postedCount_singleton, if_neg fun hc => Bool.noConfusion hc.2, Nat.zero_add]
  | ended _ _ hp => exact fun p => by rw [hp p]; exact h p
  | commit p data hm _ ho hp =>
    obtain ⟨remote, d, hl⟩ := hr.reservesOne hm
    exact hone p ho (by rw [hp]; exact ((h p).commitReserved hl data).arbitrate)
  | release p _ _ ho hp => exact hone p ho (by rw [hp]; exact (h p).releaseReserved)
  | reset _ hp =>
    intro p
    obtain ⟨c, -, e⟩ := hp p
    rw [e]
    exact Port.resetWith_accounted _ _

/-- Settles O13: a step is a turn, and each move of a port that takes or makes a POSTED record counts it. -/
theorem postedLawKept : Obligations.PostedLawKept := fun _ _ hs h =>
  (step_turn hs.queues h).accounted hs.steady hs.reservation hs.posted

end Sys2Proof.Machine
end

section
/-! PROOF. O5: a queue that is HELD before and after a step has taken no NORMAL record into its send window. -/

namespace Sys2Proof.Machine

/-- Every NORMAL record of the window `b` stands in the window `a` too, under the same sequence. -/
def NoNormalIssue (a b : List Sent) : Prop :=
  ∀ w ∈ b, w.record.lane = .normal → ∃ v ∈ a, v.record = w.record ∧ v.seq = w.seq

theorem noNormalIssue_of_subset {a b : List Sent} (h : b ⊆ a) : NoNormalIssue a b := fun w hw _ => ⟨w, h hw, rfl, rfl⟩

/-- A HELD port stays HELD and issues no NORMAL record. -/
def Port.StaysHeld (q q' : Port) : Prop := q.queue = .held → q'.queue = .held ∧ NoNormalIssue q.window q'.window

theorem Port.StaysHeld.trans {a b c : Port} (h : a.StaysHeld b) (k : b.StaysHeld c) : a.StaysHeld c := by
  intro ha
  obtain ⟨hb, hw⟩ := h ha
  obtain ⟨hc, hx⟩ := k hb
  refine ⟨hc, fun w hw' hl => ?_⟩
  obtain ⟨v, hv, hr, hs⟩ := hx w hw' hl
  obtain ⟨u, hu, hr', hs'⟩ := hw v hv (by rw [hr]; exact hl)
  exact ⟨u, hu, hr'.trans hr, hs'.trans hs⟩

/-- A move that leaves the queue state and takes no record into the window. -/
theorem Port.staysHeld_of_subset {q q' : Port} (hq : q'.queue = q.queue) (hw : q'.window ⊆ q.window) : q.StaysHeld q' :=
  fun h => ⟨hq.trans h, noNormalIssue_of_subset hw⟩

theorem Port.staysHeld_of_core {q q' : Port} (e : q'.core = q.core) : q.StaysHeld q' := by
  simp only [Port.core, Prod.mk.injEq] at e
  obtain ⟨-, ⟨e1, -⟩, -, -, e2, -⟩ := e
  exact Port.staysHeld_of_subset e2 (by rw [e1]; exact List.Subset.refl _)

/-- The arbiter takes a NORMAL record only from a RUN queue (R12). -/
theorem Port.staysHeld_arbitrate {q : Port} (h : ∀ r ∈ q.priority, r.lane = .priority) : q.StaysHeld q.arbitrate := by
  obtain e | ⟨-, -, -, w, -, e⟩ | ⟨-, -, -, e⟩ | ⟨-, -, -, -, -, r, rest, hq, -, e⟩ |
    ⟨-, -, -, -, -, hrun, r, rest, -, -, e⟩ := q.arbitrate_cases <;> rw [e]
  · exact Port.staysHeld_of_core rfl
  · exact Port.staysHeld_of_subset rfl (List.Subset.refl _)
  · exact Port.staysHeld_of_core rfl
  · refine fun hh => ⟨hh, fun w hw hl => ?_⟩
    obtain hw | hw := List.mem_append.1 hw
    · exact ⟨w, hw, rfl, rfl⟩
    · rw [List.mem_singleton.1 hw] at hl
      rw [h r (by rw [hq]; exact List.mem_cons_self ..)] at hl
      cases hl
  · intro hh
    rw [hrun] at hh
    cases hh

theorem Port.arbitrate_queue (q : Port) : q.arbitrate.queue = q.queue := by
  obtain e | ⟨-, -, -, w, -, e⟩ | ⟨-, -, -, e⟩ | ⟨-, -, -, -, -, r, rest, -, -, e⟩ |
    ⟨-, -, -, -, -, -, r, rest, -, -, e⟩ := q.arbitrate_cases <;> rw [e] <;> rfl

/-- The oldest with its counts raised is the same record under the same sequence. -/
theorem noNormalIssue_oldest {w x : Sent} {rest : List Sent} (hr : x.record = w.record) (hs : x.seq = w.seq) :
    NoNormalIssue (w :: rest) (x :: rest) := by
  intro y hy _
  obtain rfl | hy := List.mem_cons.1 hy
  · exact ⟨w, List.mem_cons_self .., hr.symm, hs.symm⟩
  · exact ⟨y, List.mem_cons_of_mem _ hy, rfl, rfl⟩

theorem Port.LineMove.staysHeld {q q' : Port} (m : q.LineMove q') (h : ∀ r ∈ q.priority, r.lane = .priority) :
    q.StaysHeld q' := by
  cases m with
  | aside m => exact Port.staysHeld_of_core m.core
  | arbitrate => exact Port.staysHeld_arbitrate h
  | hold => exact fun _ => ⟨rfl, noNormalIssue_of_subset (List.Subset.refl _)⟩
  | lose cause now => exact fun _ => ⟨rfl, noNormalIssue_of_subset (List.nil_subset _)⟩
  | complete w rest l now =>
    obtain ⟨done, drop, e⟩ := q.dropOldest.counted_eq w.record l
    rw [e]
    unfold Port.afterCompletion
    dsimp only
    split <;> exact Port.staysHeld_of_subset rfl (List.tail_subset _)
  | exhaust => exact fun _ => ⟨rfl, noNormalIssue_of_subset (List.nil_subset _)⟩
  | retry w rest hw =>
    refine fun hh => ⟨by simpa [Port.raiseRetry, Port.beginRun, hw] using hh, ?_⟩
    simp only [Port.raiseRetry, Port.beginRun, hw]
    exact noNormalIssue_oldest rfl rfl
  | beginBackoff w rest now hw =>
    refine fun hh => ⟨by simpa [Port.beginBackoff, hw] using hh, ?_⟩
    simp only [Port.beginBackoff, hw]
    exact noNormalIssue_oldest rfl rfl
  | endFrame x now =>
    unfold Port.reportEnd
    split
    · split <;> exact Port.staysHeld_of_subset rfl (List.Subset.refl _)
    · split <;> exact Port.staysHeld_of_subset rfl (List.Subset.refl _)
  | stopTimer => exact Port.staysHeld_of_subset rfl (List.Subset.refl _)
  | endBackoff => exact Port.staysHeld_of_subset rfl (List.Subset.refl _)
  | reprobe now =>
    exact (Port.staysHeld_of_subset rfl (List.Subset.refl _) : q.StaysHeld { q with link := .probing }).trans
      (Port.staysHeld_of_core (q.enterProbing_core now))
  | acceptIdent => exact Port.staysHeld_of_subset rfl (List.Subset.refl _)

theorem Port.LineMoves.staysHeld {q q' : Port} (m : q.LineMoves q') (hs : q.Steady) : q.StaysHeld q' := by
  suffices q'.Steady ∧ q.StaysHeld q' from this.2
  induction m with
  | refl => exact ⟨hs, Port.staysHeld_of_core rfl⟩
  | tail _ m ih => exact ⟨m.steady ih.1, ih.2.trans (m.staysHeld fun r hr => (ih.1.sound.priorityLane r hr).1)⟩

theorem Port.staysHeld_join (q : Port) (r : Record) : q.StaysHeld (q.join r) := by
  unfold Port.join
  cases r.lane <;> exact Port.staysHeld_of_subset rfl (List.Subset.refl _)

/-- A move of a host access issues nothing, and ends the hold only by leaving the queue RUN. -/
theorem Port.HostMove.staysHeld {q q' : Port} (m : q.HostMove q') : q.StaysHeld q' ∨ q'.queue = .run := by
  cases m with
  | configure => exact .inl (Port.staysHeld_of_subset rfl (List.Subset.refl _))
  | enable now =>
    refine .inl (Port.StaysHeld.trans (b := { q with nextSeq := 0, receiver := .hunt false, link := .probing }) ?_ ?_)
    · exact Port.staysHeld_of_subset rfl (List.Subset.refl _)
    · exact Port.staysHeld_of_core (Port.enterProbing_core { q with nextSeq := 0, receiver := .hunt false } now)
  | disable => exact .inr rfl
  | resume => exact .inr rfl
  | flush => exact .inl (Port.staysHeld_of_subset rfl (List.Subset.refl _))
  | join r => exact .inl (q.staysHeld_join r)
  | joinPosted remote d =>
    exact .inl ((q.staysHeld_join (postedRecord remote d)).trans (Port.staysHeld_of_subset rfl (List.Subset.refl _)))
  | withdraw n => exact .inl (Port.staysHeld_of_subset rfl (List.Subset.refl _))

theorem Port.HostTurn.noNormalIssue {q q' : Port} (m : q.HostTurn q') (hs : q.Steady) (h : q.queue = .held)
    (h' : q'.queue = .held) : NoNormalIssue q.window q'.window := by
  obtain m | ⟨x, m, e⟩ := m
  · exact (m.staysHeld hs h).2
  · have hx : x.queue = .held := by
      obtain rfl | rfl := e
      · exact h'
      · rwa [Port.arbitrate_queue] at h'
    have hq : q.StaysHeld x := by
      obtain hq | hrun := m.staysHeld
      · exact hq
      · rw [hrun] at hx; cases hx
    obtain rfl | rfl := e
    · exact (hq h).2
    · exact (hq.trans (Port.staysHeld_arbitrate fun r hr => ((m.steady hs).sound.priorityLane r hr).1) h).2

/-- Settles O5: a step is a turn; the moves of the line keep a HELD queue HELD and issue only from the PRIORITY lane, and the
host accesses that issue after ending the hold leave it RUN. -/
theorem heldQueueIssuesNoNormalRecord : Obligations.HeldQueueIssuesNoNormalRecord := by
  intro s t p hs h hq hq'
  have steady := hs.steady p
  have hkeep : (s.port p).StaysHeld (t.port p) → NoNormalIssue (s.port p).window (t.port p).window := fun k => (k hq).2
  have hsame : t.port p = s.port p → NoNormalIssue (s.port p).window (t.port p).window := fun e =>
    hkeep (by rw [e]; exact Port.staysHeld_of_core rfl)
  cases step_turn hs.queues h with
  | line _ _ hp => exact hkeep ((hp p).staysHeld steady)
  | host r _ _ ho hp =>
    by_cases hr : p = r
    · subst hr
      exact hp.noNormalIssue steady hq hq'
    · exact hsame (ho p hr)
  | pass a _ _ _ _ _ hp => exact hkeep ((hp p).staysHeld steady)
  | reserve _ _ d m _ _ _ _ _ ho hp =>
    by_cases hr : p = m.port
    · subst hr
      exact hkeep (by rw [hp]; exact Port.staysHeld_join _ _)
    · exact hsame (ho p hr)
  | ended _ _ hp => exact hsame (hp p)
  | commit r data _ _ ho hp =>
    by_cases hr : p = r
    · subst hr
      refine hkeep ?_
      rw [hp]
      refine Port.StaysHeld.trans (b := (s.port p).commitReserved data) ?_ (Port.staysHeld_arbitrate fun r hr => ?_)
      · exact Port.staysHeld_of_subset rfl (List.Subset.refl _)
      · exact (steady.sound.priorityLane r hr).1
    · exact hsame (ho p hr)
  | release r _ _ ho hp =>
    by_cases hr : p = r
    · subst hr
      exact hkeep (by rw [hp]; exact Port.staysHeld_of_subset rfl (List.Subset.refl _))
    · exact hsame (ho p hr)
  | reset _ hp =>
    obtain ⟨c, -, e⟩ := hp p
    rw [e] at hq'
    cases hq'

end Sys2Proof.Machine
end

section
/-! PROOF. O6, O43 and O44: the reset state is lawful, and what the two resets make of every block. -/

namespace Sys2Proof.Machine

/-! ## What stands after a reset, port by port and slot by slot -/

@[simp] theorem State.reset_port (p : PortId) : State.reset.port p = Port.resetWith true PortConfig.reset :=
  Vector.getElem_replicate p.isLt

@[simp] theorem State.reset_window (e : EntryId) : State.reset.window e = WindowEntry.reset := Vector.getElem_replicate e.isLt

@[simp] theorem State.reset_readSlot (n : SlotId) : State.reset.readSlot n = none := Vector.getElem_replicate n.isLt

@[simp] theorem State.reset_request (n : SlotId) : State.reset.request n = RequestSlot.reset := Vector.getElem_replicate n.isLt

theorem mapTwelve_get {α β : Type} (f : α → β) (v : Vector α 12) (i : Fin 12) : (mapTwelve f v)[i] = f v[i] := by
  fin_cases i <;> rfl

theorem State.hardwareReset_port (s : State) (p : PortId) :
    s.hardwareReset.port p = Port.resetWith (s.port p).carrier PortConfig.reset := mapFour_get _ _ p

theorem State.hardwareReset_window (s : State) (e : EntryId) : s.hardwareReset.window e = WindowEntry.reset :=
  Vector.getElem_replicate e.isLt

theorem State.hardwareReset_readSlot (s : State) (n : SlotId) : s.hardwareReset.readSlot n = none :=
  Vector.getElem_replicate n.isLt

theorem State.hardwareReset_request (s : State) (n : SlotId) : s.hardwareReset.request n = RequestSlot.reset :=
  Vector.getElem_replicate n.isLt

theorem State.chipReset_port (s : State) (p : PortId) :
    s.chipReset.port p = Port.resetWith (s.port p).carrier (s.port p).config := mapFour_get _ _ p

theorem State.chipReset_window (s : State) (e : EntryId) : s.chipReset.window e = (s.window e).disabled := mapTwelve_get _ _ e

theorem State.chipReset_readSlot (s : State) (n : SlotId) : s.chipReset.readSlot n = none := Vector.getElem_replicate n.isLt

theorem State.chipReset_request (s : State) (n : SlotId) : s.chipReset.request n = RequestSlot.reset :=
  Vector.getElem_replicate n.isLt

/-! ## The laws at reset -/

theorem Port.resetWith_linkSound (carrier : Bool) {c : PortConfig} (h : c.InRange) : (Port.resetWith carrier c).LinkSound where
  config := h
  quiet _ := ⟨rfl, rfl, rfl, rfl⟩
  identified hl := by cases hl
  phase := by simp [Port.resetWith]
  probeTimer := by simp [Port.resetWith]
  off _ := ⟨rfl, rfl, rfl, rfl, rfl, rfl, rfl, rfl, rfl⟩

theorem EventQueue.resetWith_sound (mask : BitVec 9) {threshold : BitVec 7} (steps : Byte)
    (h : 1 ≤ threshold.toNat ∧ threshold.toNat ≤ 64) : (EventQueue.resetWith mask false threshold steps).Sound where
  bound := Nat.zero_le _
  holdoff := by simp [EventQueue.resetWith]
  line := rfl
  threshold := h

theorem WindowEntry.reset_sound : WindowEntry.reset.Sound := ⟨Nat.zero_le _, Bool.noConfusion⟩

/-- Settles O6: every block is at its reset value, and each law holds of those. -/
theorem resetIsLawful : Obligations.ResetIsLawful where
  queues p := by
    rw [State.reset_port]
    exact (Port.resetWith_steady true PortConfig.reset_inRange).sound
  links p := by
    rw [State.reset_port]
    exact Port.resetWith_linkSound true PortConfig.reset_inRange
  events := EventQueue.resetWith_sound _ _ (by decide)
  windows e := by
    rw [State.reset_window]
    exact WindowEntry.reset_sound
  reservation := State.reservationLaw_of_none
    (fun p => Port.reservesLast_nil.2 (by simp [Port.resetWith])) (fun a ha => by cases ha) rfl rfl (fun _ => rfl)
  reads :=
    { records := fun n p => by simp [State.readRecordFor, Port.pool, Port.resetWith]
      keys := fun n m a b ha => by simp at ha
      ready := fun n slot data deadline hs => by simp at hs }
  requests n p := by simp [State.requestRecordFor, Port.pool, Port.resetWith, RequestSlot.reset]
  posted p := by
    rw [State.reset_port]
    exact Port.resetWith_accounted _ _

/-! ## The two resets -/

/-- Settles O43: every block is at its reset value after the hardware reset, and the release samples the pins. -/
theorem hardwareResetAndRelease : Obligations.HardwareResetAndRelease := by
  intro s pins
  refine ⟨⟨s.hardwareReset, rfl, rfl, rfl, rfl, rfl, rfl, rfl, rfl, s.hardwareReset_port, s.hardwareReset_window,
    fun n => ⟨s.hardwareReset_readSlot n, s.hardwareReset_request n⟩, rfl, rfl, rfl, rfl⟩, fun h => ?_, fun h => ?_⟩
  · show Host.Outcome.next (if s.resetAsserted then _ else s) = _
    rw [if_pos h]
  · show Host.Outcome.next (if s.resetAsserted then _ else s) = _
    rw [if_neg (by simp [h])]

theorem commandCode_eq_one {v : Word} : commandCode v = 1 ↔ v.toNat % 16 = 1 := by
  unfold commandCode
  rw [← BitVec.toNat_inj]
  simp

/-- Settles O44: the command makes the reset due, and the reset that is due keeps what R160 names. -/
theorem chipResetKeepsTheSettings : Obligations.ChipResetKeepsTheSettings := by
  intro s v
  refine ⟨fun hr => ?_, fun hr hv => ?_, fun hd => ?_, fun hd => ⟨s.chipReset, ?_, rfl, rfl, rfl, rfl, rfl, rfl, rfl,
    s.chipReset_port, s.chipReset_window, fun n => ⟨s.chipReset_readSlot n, s.chipReset_request n⟩, rfl, rfl, rfl, rfl⟩⟩
  · show Host.Outcome.next (s.presentCommand _) = _
    rw [State.presentCommand_of_ready hr]
    rfl
  · show Host.Outcome.next (s.presentCommand _) = _
    rw [State.presentCommand_of_ready hr, State.globalCommand, if_neg (mt commandCode_eq_one.1 hv)]
  · show Host.Outcome.next (if s.chipResetDue then _ else s) = _
    rw [if_neg (by simp [hd])]
  · show Host.Outcome.next (if s.chipResetDue then _ else s) = _
    rw [if_pos hd]

end Sys2Proof.Machine
end

section
/-! PROOF. O16, O45, O46 and O55: the invalidation check, the outcomes of records, the hold and the loss of a link, and the
arbiter, each read off the lemma that says what the shared operation does. -/

namespace Sys2Proof.Machine

theorem satSucc16_eq (c : Counter) : satSucc16 c = if c = 65535#16 then 65535#16 else c + 1 := by
  unfold satSucc16
  split
  · rename_i h; exact h
  · rfl

/-! ## The arbiter -/

/-- The frame of a record is a WRITE or a READ by the record's operation (R23). -/
theorem Record.frame_eq (r : Record) (n : Seq) :
    r.frame n = if r.operation = .write then .write n r.remote r.data else .read n r.remote r.length := by
  unfold Record.frame
  cases r.operation <;> rfl

theorem Port.arbitrate_of_busy {q : Port} (h : q.transmitter ≠ none) : q.arbitrate = q := by
  unfold Port.arbitrate
  rw [if_pos (Option.isSome_iff_ne_none.2 h)]

theorem Port.arbitrate_of_free {q : Port} (h : q.transmitter = none) : q.arbitrate = q.choose := by
  unfold Port.arbitrate
  rw [h]
  rfl

/-- The candidates of an UP port outside backoff, in their order (R25). -/
theorem Port.arbitrate_of_idle {q : Port} (ht : q.transmitter = none) (hl : q.link = .up) (hb : q.backoff = none) :
    q.arbitrate = match q.nextResend with
      | some w => q.beginResend w
      | none =>
        match q.priorityHead with
        | some r => Port.issue { q with priority := q.priority.tail } r
        | none =>
          match q.normalHead with
          | some r => Port.issue { q with normal := q.normal.tail } r
          | none => q := by
  rw [Port.arbitrate_of_free ht, Port.choose, hl, hb]
  rfl

/-- The first of a lawful resend run is outstanding, and is the next resend (R45, R46). -/
theorem Port.QueueSound.nextResend {q : Port} (h : q.QueueSound) {n : Seq} {others : List Seq} (hr : q.resendRun = n :: others) :
    ∃ w ∈ q.window, w.seq = n ∧ q.nextResend = some w := by
  obtain ⟨x, hx, hxn⟩ := List.mem_map.1 (h.run n (by rw [hr]; exact List.mem_cons_self ..))
  cases hf : q.window.find? (fun w => w.seq == n) with
  | none =>
    have := List.find?_eq_none.1 hf x hx
    simp [hxn] at this
  | some w =>
    refine ⟨w, List.mem_of_find?_eq_some hf, by simpa using List.find?_some hf, ?_⟩
    rw [Port.nextResend, hr, List.findSome?_cons, hf]

theorem Port.nextResend_none {q : Port} (h : q.resendRun = []) : q.nextResend = none := by
  rw [Port.nextResend, h]
  rfl

/-- No PRIORITY head is eligible in an empty lane or at a full window. -/
theorem Port.priorityHead_none {q : Port} (h : q.priority = [] ∨ ¬ q.window.length < q.effectiveWindow.toNat) :
    q.priorityHead = none := by
  unfold Port.priorityHead Port.windowOpen
  obtain h | h := h
  · rw [h]
  · cases q.priority <;> simp [h]

/-- No NORMAL head is eligible at a full window, in a HELD queue, in an empty lane, or while it is RESERVED (R12). -/
theorem Port.normalHead_none {q : Port} (h : ¬ q.window.length < q.effectiveWindow.toNat ∨ q.queue = .held ∨ q.normal = [] ∨
    ∃ r lane, q.normal = r :: lane ∧ r.reserved = true) : q.normalHead = none := by
  unfold Port.normalHead Port.windowOpen Record.queued
  obtain h | h | h | ⟨r, lane, h, hr⟩ := h
  · cases q.normal <;> simp [h]
  · cases q.normal <;> simp [h]
  · rw [h]
  · simp [h, hr]

/-- Settles O55: the choice is read off the candidates in their order. -/
theorem arbiterChoosesInOrder : Obligations.ArbiterChoosesInOrder := by
  intro q hq
  dsimp only
  refine ⟨?_, fun ht hl hp => ?_, ?_, ?_, ?_, ?_⟩
  · intro h
    by_cases ht : q.transmitter = none
    · rw [Port.arbitrate_of_free ht]
      unfold Port.choose
      obtain h | h | h | ⟨h, hp⟩ | ⟨h, hb⟩ := h
      · exact absurd ht h
      · rw [h]
      · rw [h]
      · simp [h, hp]
      · simp [h, Option.isSome_iff_ne_none.2 hb]
    · exact Port.arbitrate_of_busy ht
  · rw [Port.arbitrate_of_free ht, Port.choose]
    simp only [hl, hp, if_true]
    rw [Port.beginProbe, hl]
  · rintro n others ⟨ht, hl, hb⟩ hr
    obtain ⟨w, hw, hn, hnext⟩ := hq.nextResend hr
    refine ⟨w, hw, hn, ?_⟩
    rw [Port.arbitrate_of_idle ht hl hb, hnext]
    dsimp only
    rw [Port.beginResend, hn, Record.frame_eq, satSucc16_eq]
  · rintro r lane ⟨ht, hl, hb⟩ hr hp hroom
    have hhead : q.priorityHead = some r := by
      have hres := (hq.priorityLane r (by rw [hp]; exact List.mem_cons_self ..)).2
      simp [Port.priorityHead, hp, Port.windowOpen, hroom, Record.queued, hres]
    rw [Port.arbitrate_of_idle ht hl hb, Port.nextResend_none hr, hhead]
    dsimp only
    rw [Port.issue, Record.frame_eq, hp]
    rfl
  · rintro r lane ⟨ht, hl, hb⟩ hr hnp hn hroom hrun hres
    have hhead : q.normalHead = some r := by
      simp [Port.normalHead, hn, hrun, Port.windowOpen, hroom, Record.queued, hres]
    rw [Port.arbitrate_of_idle ht hl hb, Port.nextResend_none hr, Port.priorityHead_none hnp, hhead]
    dsimp only
    rw [Port.issue, Record.frame_eq, hn]
    rfl
  · rintro ⟨ht, hl, hb⟩ hr hnp hnone
    rw [Port.arbitrate_of_idle ht hl hb, Port.nextResend_none hr, Port.priorityHead_none hnp, Port.normalHead_none hnone]

/-! ## The hold and the loss of the link -/

theorem Record.heldBack_fun : Record.heldBack = fun r => r.isRead && !r.reserved := funext Record.heldBack_eq

/-- Settles O46: what the hold and the loss make of the port, the slots and the events, and what stands. -/
theorem holdAndLinkLoss : Obligations.HoldAndLinkLoss := by
  intro s p cause
  obtain ⟨hp, he, hq, hs, hr1, hr2, -⟩ := s.hold_spec p
  obtain ⟨lp, le, lq, ls, lr1, lr2, -⟩ := s.loseLink_spec p cause
  have wh := s.within_hold p
  have wl := s.within_loseLink p cause
  rw [Record.heldBack_fun] at hs ls
  have hport : ∀ q : Port, q.hold = { q with queue := .held, normal := q.normal.filter (fun r => !(r.isRead && !r.reserved)) } := by
    intro q
    unfold Port.hold
    simp only [Record.heldBack_eq]
  refine ⟨⟨_, rfl, hp.trans (hport _), hs, wh.others, hq, he, State.shell_windows wh.shell, State.shell_target wh.shell, hr1, hr2⟩,
    ⟨_, rfl, lp.trans ?_, ls, le, wl.others, lq, State.shell_windows wl.shell, State.shell_target wl.shell, lr1, lr2⟩⟩
  exact hport _

/-! ## The outcome of a record -/

theorem bufferOf_get (data : List Byte) (j : Fin 16) :
    (bufferOf data)[j] = if h : j.val < data.length then data[j.val] else 0 := by
  have h : (bufferOf data)[j] = byteAt data j.val := by fin_cases j <;> rfl
  rw [h, byteAt, List.getD_eq_getElem?_getD]
  split
  · rename_i hj; simp [hj]
  · rename_i hj; simp [hj]

/-- A SUBMITTED slot that takes its record's outcome offers REQUEST_DONE if its notify option is 1 (R142, R143). -/
theorem State.completeRequest_eq (s : State) (n : SlotId) (c : Cause) (b : Vector Byte 16) :
    s.completeRequest n c b = if (s.request n).notify
      then (s.setRequest n { s.request n with state := .complete c, buffer := b }).offer
        ⟨.requestDone, (s.request n).port, c, 0, .requestSlot n⟩
      else s.setRequest n { s.request n with state := .complete c, buffer := b } := rfl

/-- Settles O45, by the record's source. -/
theorem completionReachesTheProducer : Obligations.CompletionReachesTheProducer := by
  intro s p r data l cause seq hl
  refine ⟨fun hsrc => ?_, fun n slot hsrc hslot hpend => ?_, fun n hsrc hsub => ?_⟩
  · simp only [State.settle, hsrc]
    refine ⟨rfl, ?_⟩
    obtain rfl | rfl := hl <;> rfl
  · simp only [State.settle, hsrc, State.settleRead, hslot, if_pos hpend]
    refine ⟨rfl, ?_⟩
    obtain rfl | rfl := hl <;> rfl
  · simp only [State.settle, hsrc, State.settleRequest_eq, if_pos hsub, State.completeRequest_eq]
    constructor
    · obtain rfl | rfl := hl <;> rfl
    · refine ⟨_, rfl, fun hw => ?_, fun hrd j => ?_⟩
      · simp [RequestSlot.given, hw]
      · simp only [RequestSlot.given, hrd, if_true]
        exact bufferOf_get data j

/-! ## The invalidation check -/

/-- Two ranges that are not empty overlap exactly when one byte lies in both (R11). -/
theorem overlaps_iff (a b : Word) {n m : Nat} (hn : 1 ≤ n) (hm : 1 ≤ m) :
    overlaps a n b m = true ↔ ∃ k, a.toNat ≤ k ∧ k < a.toNat + n ∧ b.toNat ≤ k ∧ k < b.toNat + m := by
  simp only [overlaps, Bool.and_eq_true, decide_eq_true_eq]
  constructor
  · intro h
    exact ⟨max a.toNat b.toNat, by omega⟩
  · rintro ⟨k, h⟩
    omega

theorem one_le_size_bytes (z : Size) : 1 ≤ z.bytes := by cases z <;> decide

/-- A slot is struck exactly when it is READY for the port and shares a byte with the write (R11). -/
theorem DelayedReads.struck_iff (d : DelayedReads) (p : PortId) {r : Record} (hr : 1 ≤ r.length) (n : SlotId) :
    d.struck p r n = true ↔ ∃ slot data deadline, d.slots[n] = some slot ∧ slot.state = .ready data deadline ∧
      slot.port = p ∧ ∃ b, slot.remote.toNat ≤ b ∧ b < slot.remote.toNat + slot.key.size.bytes ∧
        r.remote.toNat ≤ b ∧ b < r.remote.toNat + r.length := by
  unfold DelayedReads.struck
  cases hs : d.slots[n] with
  | none => simp
  | some slot =>
    unfold ReadSlot.invalidatedBy
    cases hx : slot.state with
    | pending => simp [hx]
    | failed c t => simp [hx]
    | ready data t =>
      simp [hx, overlaps_iff _ _ (one_le_size_bytes slot.key.size) hr]

/-- The counter rises by one for each slot of a list that is struck, and saturates (R131). -/
theorem DelayedReads.invalidations_foldl (p : PortId) (r : Record) (ns : List SlotId) (hn : ns.Nodup) (d : DelayedReads) :
    (ns.foldl (fun d n => d.invalidateSlot p r n) d).invalidations.toNat =
      min 65535 (d.invalidations.toNat + (ns.filter (fun n => d.struck p r n)).length) := by
  induction ns generalizing d with
  | nil =>
    have := d.invalidations.isLt
    simp only [List.foldl_nil, List.filter_nil, List.length_nil]
    omega
  | cons n ns ih =>
    obtain ⟨hmem, hn⟩ := List.nodup_cons.1 hn
    have hstruck : ∀ k ∈ ns, (d.invalidateSlot p r n).struck p r k = d.struck p r k := by
      intro k hk
      have hkn : k ≠ n := fun e => hmem (e ▸ hk)
      unfold DelayedReads.struck
      rw [DelayedReads.invalidateSlot_slots, if_neg fun hc => hkn hc.1]
    rw [List.foldl_cons, ih hn, List.filter_congr hstruck]
    have hcount : (d.invalidateSlot p r n).invalidations =
        if d.struck p r n = true then satSucc16 d.invalidations else d.invalidations := by
      unfold DelayedReads.invalidateSlot DelayedReads.struck
      cases d.slots[n] with
      | none => rfl
      | some slot => dsimp only; split <;> rfl
    rw [hcount]
    by_cases hs : d.struck p r n = true
    · rw [if_pos hs, List.filter_cons_of_pos hs, List.length_cons]
      have := d.invalidations.isLt
      unfold satSucc16
      split
      · rename_i h
        rw [h]
        simp
      · rename_i h
        have hne : d.invalidations.toNat ≠ 65535 := fun e => h (BitVec.eq_of_toNat_eq e)
        have hsucc : (d.invalidations + 1).toNat = d.invalidations.toNat + 1 := by
          rw [BitVec.toNat_add]
          show (d.invalidations.toNat + 1) % 65536 = _
          omega
        rw [hsucc]
        omega
    · rw [if_neg hs, List.filter_cons_of_neg hs]

theorem mem_fourNumbers (n : Fin 4) : n ∈ fourNumbers := by fin_cases n <;> decide

/-- Settles O16: the check frees the slots struck, and the counter rises once for each. -/
theorem invalidationFreesOverlappedSlots : Obligations.InvalidationFreesOverlappedSlots := by
  intro s p r hr
  have hiff := fun n => s.reads.struck_iff p hr n
  obtain ⟨href, hsteps⟩ := s.reads.invalidate_settings p r
  refine ⟨s.reads.invalidate p r, rfl, href, hsteps, fun n hn => ?_, fun n hn => ?_, fun freed hnd hf => ?_⟩
  · rw [DelayedReads.invalidate_slots, if_pos ((hiff n).2 hn)]
  · rw [DelayedReads.invalidate_slots, if_neg (mt (hiff n).1 hn)]
    rfl
  · have hperm : freed.Perm (fourNumbers.filter (fun n => s.reads.struck p r n)) := by
      refine (List.perm_ext_iff_of_nodup hnd ((by decide : fourNumbers.Nodup).filter _)).2 fun n => ?_
      rw [hf n, List.mem_filter, and_iff_right (mem_fourNumbers n)]
      exact (hiff n).symm
    rw [hperm.length_eq]
    exact DelayedReads.invalidations_foldl p r fourNumbers (by decide) s.reads

end Sys2Proof.Machine
end

section
/-! PROOF. O18, O34 and O37: reads that find no slot, FLUSH and SUBMIT. -/

namespace Sys2Proof.Machine

/-! ## Reads that find no slot -/

/-- A read that wins an OWNED entry is handed to the DRU (R109, R111, R115). -/
theorem exec_ownedRead_of_hit {s : State} {m : MasterId} {addr : Word} {z : Size} {h : Hit} (hr : s.Ready)
    (ha : addr.toNat % z.bytes = 0) (hw : inRegisterWindow s.pins addr = false) (hl : lookup s.windows addr = some h)
    (hm : h.mode = .owned) : exec (.ownedRead m addr z) s = .next (s.ownedRead ⟨m, addr, z⟩ h) := by
  show Host.Outcome.next (s.present (aligned addr.toNat z.bytes) _) = _
  rw [State.present_of_ready hr (by simp [aligned, ha]), State.windowAccess, hw, hl]
  simp [hm]

theorem State.freeSlot_none {s : State} (h : ∀ n, s.readSlot n ≠ none) : s.freeSlot = none := by
  unfold State.freeSlot
  rw [List.find?_eq_none]
  intro n _
  simpa using h n

/-- The four numbers before and after one of them, lowest first. -/
theorem fourNumbers_split : ∀ n : Fin 4, fourNumbers = fourNumbers.take n ++ n :: fourNumbers.drop (n + 1) ∧
    ∀ k ∈ fourNumbers.take n, k < n := by decide

/-- The FREE slot of lowest number (R127). -/
theorem State.freeSlot_some {s : State} {n : SlotId} (h : s.readSlot n = none) (low : ∀ k, k < n → s.readSlot k ≠ none) :
    s.freeSlot = some n := by
  obtain ⟨hsplit, hlow⟩ := fourNumbers_split n
  refine List.find?_eq_some_iff_append.2 ⟨by simp [h], _, _, hsplit, fun k hk => ?_⟩
  simpa [Option.isSome_iff_ne_none] using low k (hlow k hk)

theorem Port.flowing_iff (q : Port) : q.flowing = true ↔ q.link = .up ∧ q.queue = .run := by
  simp [Port.flowing]

theorem State.refuseRead_eq (s : State) : s.refuseRead = (s.setReads { s.reads with
    refusals := if s.reads.refusals = 65535#16 then 65535#16 else s.reads.refusals + 1 }).withAnswer .rty := by
  rw [State.refuseRead, satSucc16_eq]

/-- Settles O18, by the lines of Table 8-3 for a read that no slot answers. -/
theorem ownedReadWithoutASlot : Obligations.OwnedReadWithoutASlot := by
  intro s m addr z h hr ha hw hl hm
  dsimp only
  rw [exec_ownedRead_of_hit hr ha hw hl hm]
  refine ⟨fun hp => ?_, fun hp hkey => ?_⟩
  · rw [State.ownedRead, hp]
    rfl
  have hnew : s.ownedRead ⟨m, addr, z⟩ h = s.newRead ⟨m, addr, z⟩ h := by
    rw [State.ownedRead, hp, State.decideRead, State.findKey_none.2 hkey]
    rfl
  rw [hnew, ← State.refuseRead_eq]
  have hstate : ∀ n, (s.port h.port).link = .up ∧ (s.port h.port).queue = .run →
      (s.port h.port).refusesState (.read n) = false := by
    intro n hrun
    rw [Port.refusesState, (Port.flowing_iff _).2 hrun]
    rfl
  refine ⟨fun hrun => ?_, fun hrun hfull => ?_, fun hrun hpool => ?_, fun n hrun hpool hfree hlow => ?_⟩
  · rw [State.newRead, if_pos (by simpa using mt (Port.flowing_iff _).1 hrun)]
  · rw [State.newRead, if_neg (by simp [(Port.flowing_iff _).2 hrun]), State.freeSlot_none hfull]
  · rw [State.newRead, if_neg (by simp [(Port.flowing_iff _).2 hrun])]
    cases s.freeSlot with
    | none => rfl
    | some n =>
      dsimp only
      cases href : (s.port h.port).refusal (.read n) with
      | none =>
        have := ((Port.refusal_eq_none _ _).1 href).2
        omega
      | some x => rfl
  · rw [State.newRead, if_neg (by simp [(Port.flowing_iff _).2 hrun]), State.freeSlot_some hfree hlow]
    dsimp only
    rw [(Port.refusal_eq_none _ _).2 ⟨hstate n hrun, hpool⟩]
    rfl

/-! ## SUBMIT -/

theorem exec_submit {s : State} (hr : s.Ready) (n : SlotId) :
    exec (.submit n) s = .next ((s.submitRequest n).withAnswer .ack) := by
  show Host.Outcome.next (s.presentCommand _) = _
  rw [State.presentCommand_of_ready hr]

theorem State.setRequest_setRequest (s : State) (n : SlotId) (a b : RequestSlot) :
    (s.setRequest n a).setRequest n b = s.setRequest n b := by
  unfold State.setRequest
  simp

theorem RequestSlot.valid_iff (q : RequestSlot) :
    q.valid = true ↔ 1 ≤ q.length.toNat ∧ q.length.toNat ≤ 16 ∧ q.remote.toNat + q.length.toNat ≤ 2 ^ 32 := by
  simp [RequestSlot.valid, and_assoc]

/-- A SUBMIT is admitted exactly when its fields are valid, the link is not OFF and there is room (R10, R139). -/
theorem submit_admitted_iff (q : Port) (x : RequestSlot) (n : SlotId) :
    (x.valid && (q.refusal (.request n)).isNone) = true ↔
      (1 ≤ x.length.toNat ∧ x.length.toNat ≤ 16 ∧ x.remote.toNat + x.length.toNat ≤ 2 ^ 32) ∧ q.link ≠ .off ∧
        q.poolCount < 16 := by
  rw [Bool.and_eq_true, RequestSlot.valid_iff, Option.isNone_iff_eq_none, Port.refusal_eq_none]
  simp [Port.refusesState]

/-- The record of a request, by its fields (R10). -/
theorem requestRecord_eq (n : SlotId) (q : RequestSlot) :
    requestRecord n q = ⟨if q.priorityOption then .priority else .normal, .request n, q.operation, q.remote, q.length.toNat,
      if q.operation = .write then q.buffer.toList.take q.length.toNat else [], false⟩ := by
  unfold requestRecord
  cases q.operation <;> rfl

theorem Port.join_eq (q : Port) (r : Record) (b : Bool) (h : r.lane = if b then .priority else .normal) :
    q.join r = if b then { q with priority := q.priority ++ [r] } else { q with normal := q.normal ++ [r] } := by
  unfold Port.join
  cases b <;> simp [h]

/-- Settles O37: an admitted request joins its lane, and another completes its slot with REFUSED. -/
theorem submitAdmitsOrRefuses : Obligations.SubmitAdmitsOrRefuses := by
  intro s n hr hidle
  have hslot := s.slotResult_request_self n .done
  have hif := submit_admitted_iff (s.port (s.request n).port) (s.request n) n
  refine ⟨fun hsound hlink hroom => ?_, fun hno => ?_⟩
  · rw [exec_submit hr, State.submitRequest]
    dsimp only
    rw [if_pos hidle]
    rw [if_pos (by exact hif.2 ⟨hsound, hlink, hroom⟩), State.admitRequest, hslot]
    dsimp only
    rw [requestRecord_eq, State.modPort, Port.join_eq _ _ (s.request n).priorityOption rfl]
    have hset : ∀ q : Port, ((s.slotResult n .done).setPort (s.request n).port q).setRequest n
        { s.request n with state := .submitted, commandResult := .done } = (s.setPort (s.request n).port q).setRequest n
        { s.request n with state := .submitted, commandResult := .done } := fun q =>
      (s.setPort (s.request n).port q).setRequest_setRequest n _ _
    rw [hset]
    rfl
  · rw [exec_submit hr, State.submitRequest]
    dsimp only
    rw [if_pos hidle, if_neg (by exact mt hif.1 hno), State.completeRequest_eq, hslot]
    dsimp only
    rw [State.slotResult, State.setRequest_setRequest]

/-! ## FLUSH -/

theorem exec_flush {s : State} (hr : s.Ready) (p : PortId) :
    exec (.flush p) s = .next ((s.flushPort p).withAnswer .ack) := by
  show Host.Outcome.next (s.presentCommand _) = _
  rw [State.presentCommand_of_ready hr]

/-- While no access is in progress every record of a lawful port's lanes is QUEUED (R8). -/
theorem State.Lawful.all_queued {s : State} (h : s.Lawful) (hb : s.target.access = none) (p : PortId) :
    (s.port p).priority.filter Record.queued = (s.port p).priority ∧
      (s.port p).normal.filter Record.queued = (s.port p).normal := by
  constructor
  · refine List.filter_eq_self.2 fun r hr => ?_
    simp [Record.queued, ((h.queues p).priorityLane r hr).2]
  · refine List.filter_eq_self.2 fun r hr => ?_
    simp [Record.queued, Port.reservesLast_nil.1 (h.reservation.reservesNone hb p) r hr]

/-- A record of a request in a lawful pool stands for a SUBMITTED slot (R136). -/
theorem State.RequestLaw.submitted {s : State} (h : s.RequestLaw) {p : PortId} {r : Record} (hr : r ∈ (s.port p).pool)
    {n : SlotId} (hn : r.source = .request n) : (s.request n).state = .submitted := by
  have hmem : r ∈ (s.port p).pool.filter (fun r => r.source == .request n) := List.mem_filter.2 ⟨hr, by simp [hn]⟩
  rw [h n p, State.requestRecordFor] at hmem
  split at hmem
  · rename_i hc; exact hc.1
  · cases hmem

/-- Records of which no two name one request slot. -/
theorem pairwise_source_ne (l : List Record) (h : ∀ n, (l.filter (fun r => r.source == .request n)).length ≤ 1) :
    (l.filter Record.isRequest).Pairwise (fun a b => a.source ≠ b.source) := by
  induction l with
  | nil => exact .nil
  | cons r l ih =>
    have hl : ∀ n, (l.filter (fun r => r.source == .request n)).length ≤ 1 := fun n =>
      (((List.sublist_cons_self r l).filter _).length_le).trans (h n)
    by_cases hr : r.isRequest = true
    · rw [List.filter_cons_of_pos hr, List.pairwise_cons]
      refine ⟨fun x hx heq => ?_, ih hl⟩
      cases hs : r.source with
      | posted => simp [Record.isRequest, hs] at hr
      | read n => simp [Record.isRequest, hs] at hr
      | request n =>
        have hmem : x ∈ l.filter (fun r => r.source == .request n) :=
          List.mem_filter.2 ⟨(List.mem_filter.1 hx).1, by simp [← heq, hs]⟩
        have hlen := h n
        rw [List.filter_cons_of_pos (by simp [hs]), List.length_cons] at hlen
        have := List.length_pos_of_mem hmem
        omega
    · rw [List.filter_cons_of_neg hr]
      exact ih hl

/-- No two records of a lawful pool stand for one request slot (R136). -/
theorem State.RequestLaw.once {s : State} (h : s.RequestLaw) {p : PortId} {l : List Record} (hl : l.Sublist (s.port p).pool) :
    (l.filter Record.isRequest).Pairwise (fun a b => a.source ≠ b.source) := by
  refine pairwise_source_ne l fun n => ((hl.filter _).length_le).trans ?_
  rw [h n p, State.requestRecordFor]
  split <;> simp

/-- The FLUSHED record counts the records removed by source (R90). -/
theorem flushedOffer_eq (p : PortId) (rs : List Record) :
    flushedOffer p rs = ⟨.flushed, p, .none, 0, .counts (rs.filter (fun r => r.source == .posted)).length
      (rs.filter Record.isRead).length (rs.filter Record.isRequest).length⟩ := rfl

theorem State.offerFlushed_events (s : State) (p : PortId) (rs : List Record) :
    (s.offerFlushed p rs).events = s.events.offerAll s.now (if rs = [] then [] else [flushedOffer p rs]) := by
  unfold State.offerFlushed
  cases rs <;> rfl

theorem State.offerFlushed_rest (s : State) (p : PortId) (rs : List Record) :
    (s.offerFlushed p rs).reads = s.reads ∧ (s.offerFlushed p rs).requests = s.requests := by
  unfold State.offerFlushed
  split <;> exact ⟨rfl, rfl⟩

/-- Settles O34: the QUEUED records are all of both lanes, and each producer is given its outcome in their order. -/
theorem flushRemovesQueuedRecords : Obligations.FlushRemovesQueuedRecords := by
  intro s p hr hs hoff
  obtain ⟨hpri, hnor⟩ := hs.all_queued hr.busFree p
  have hgone : (s.port p).queuedRecords = (s.port p).priority ++ (s.port p).normal := by
    rw [Port.queuedRecords, hpri, hnor]
  have hlanes : (s.port p).flushLanes = { s.port p with priority := [], normal := [] } := by
    have hnone : ∀ l : List Record, l.filter Record.queued = l → l.filter (fun r => !r.queued) = [] := by
      intro l hl
      rw [← hl, List.filter_filter]
      simp
    rw [Port.flushLanes, hnone _ hpri, hnone _ hnor]
  have hsub : ((s.port p).priority ++ (s.port p).normal).Sublist (s.port p).pool := by
    rw [Port.pool, List.append_assoc]
    exact List.sublist_append_right _ _
  -- the state once every producer has its outcome, before FLUSHED is offered
  let settled := (s.modPort p (fun q => q.flushLanes.withResult .done)).settleAll p .flushed
    ((s.port p).priority ++ (s.port p).normal)
  have hflush : s.flushPort p = settled.offerFlushed p ((s.port p).priority ++ (s.port p).normal) := by
    rw [State.flushPort, if_neg hoff, hgone]
  have hevents : settled.events = s.events.offerAll s.now (s.doneOffers .flushed ((s.port p).priority ++ (s.port p).normal)) :=
    State.settleAll_events p .flushed _ (s.modPort p (fun q => q.flushLanes.withResult .done))
      (fun r hr n hn => hs.requests.submitted (hsub.subset hr) hn) (hs.requests.once hsub)
  have within := (s.within_modPort p (fun q => q.flushLanes.withResult .done)).trans
    (State.within_settleAll p .flushed ((s.port p).priority ++ (s.port p).normal) _)
  have hw := s.within_flushPort p
  obtain ⟨hreads, hrequests⟩ := settled.offerFlushed_rest p ((s.port p).priority ++ (s.port p).normal)
  obtain ⟨hr1, hr2, -⟩ := State.settleAll_reads p .flushed ((s.port p).priority ++ (s.port p).normal)
    (s.modPort p (fun q => q.flushLanes.withResult .done))
  refine ⟨(s.flushPort p).withAnswer .ack, exec_flush hr p, rfl, ?_, hw.others, fun n => ?_, fun n => ?_, ?_,
    (State.shell_windows hw.shell :), (State.shell_target hw.shell :), ?_, ?_⟩
  · rw [State.withAnswer_port, hflush, State.offerFlushed_port, State.settleAll_port, State.modPort_port_self, hlanes]
    rfl
  · rw [State.withAnswer_readSlot, hflush, State.readSlot, hreads]
    exact State.settleAll_readSlot p .flushed _ _ n
  · rw [State.withAnswer_request, hflush, State.request, hrequests]
    exact State.settleAll_request p .flushed _ _ n
  · rw [State.withAnswer_events, hflush, State.offerFlushed_events, hevents, State.shell_now within.shell,
      ← EventQueue.offerAll_append, flushedOffer_eq]
  · rw [State.withAnswer_reads, hflush, hreads]
    exact hr1
  · rw [State.withAnswer_reads, hflush, hreads]
    exact hr2

end Sys2Proof.Machine
end

section
/-! PROOF. O25: the status words show the state. A register word is an append of its fields, highest first; a field is read off
by passing over the fields below it, and a mask is the append of the masks of its fields. -/

namespace Sys2Proof.Machine

/-! ## Fields of a word -/

/-- A field above the lowest is a field of the rest of the word. -/
theorem extract_above {v w start len : Nat} {hi : BitVec v} {lo : BitVec w} {x : BitVec len}
    (h : hi.extractLsb' (start - w) len = x) (hle : w ≤ start) : (hi ++ lo).extractLsb' start len = x := by
  rw [BitVec.extractLsb'_append_eq_of_le hle, h]

/-- A bit above the lowest field is a bit of the rest of the word. -/
theorem bit_above {v w i : Nat} {hi : BitVec v} {lo : BitVec w} {b : Bool} (h : hi.getLsbD (i - w) = b) (hle : w ≤ i) :
    (hi ++ lo).getLsbD i = b := by
  rw [BitVec.getLsbD_append, if_neg (Nat.not_lt.2 hle), h]

/-- The lowest field, where it is one bit. -/
theorem bit_lowest {v : Nat} {hi : BitVec v} (b : Bool) : (hi ++ bit b).getLsbD 0 = b := by
  rw [BitVec.getLsbD_append]
  cases b <;> rfl

/-- A word lies under a mask when each of its fields lies under its own. -/
theorem masked_append {v w : Nat} {hi mh : BitVec v} {lo ml : BitVec w} (h : hi &&& mh = hi) (k : lo &&& ml = lo) :
    (hi ++ lo) &&& (mh ++ ml) = hi ++ lo := by
  rw [BitVec.and_append, h, k]

theorem toNat_append_add {v w : Nat} (hi : BitVec v) (lo : BitVec w) : (hi ++ lo).toNat = hi.toNat * 2 ^ w + lo.toNat := by
  rw [BitVec.toNat_append, ← Nat.shiftLeft_add_eq_or_of_lt lo.isLt, Nat.shiftLeft_eq]

@[simp] theorem two_toNat (n : Fin 4) : (two n).toNat = n.val := by
  rw [two, BitVec.toNat_ofNat]
  exact Nat.mod_eq_of_lt n.isLt

/-- A number that fits its field is read back. -/
theorem toNat_of_eq_ofNat {w n : Nat} {x : BitVec w} (h : x = BitVec.ofNat w n) (hn : n < 2 ^ w) : x.toNat = n := by
  rw [h, BitVec.toNat_ofNat, Nat.mod_eq_of_lt hn]

/-! ## The words of a port -/

theorem Port.queueStatusWord_fields {q : Port} (h : q.QueueSound) :
    let w := q.queueStatusWord
    (w.extractLsb' 0 5).toNat = queuedCount q.priority ∧ (w.extractLsb' 8 5).toNat = queuedCount q.normal ∧
      (w.extractLsb' 16 5).toNat = q.window.length ∧ (w.extractLsb' 24 5).toNat = q.poolCount ∧ w &&& 0x1F1F1F1F#32 = w := by
  have hpool := h.pool
  have hp : queuedCount q.priority ≤ q.priority.length := List.length_filter_le _ _
  have hn : queuedCount q.normal ≤ q.normal.length := List.length_filter_le _ _
  have hsum : q.poolCount = q.priority.length + q.normal.length + q.window.length := rfl
  have hmask : 0x1F1F1F1F#32 = 0#3 ++ BitVec.allOnes 5 ++ 0#3 ++ BitVec.allOnes 5 ++ 0#3 ++ BitVec.allOnes 5 ++ 0#3 ++
    BitVec.allOnes 5 := by decide
  unfold Port.queueStatusWord
  refine ⟨toNat_of_eq_ofNat ?_ (by omega), toNat_of_eq_ofNat ?_ (by omega), toNat_of_eq_ofNat ?_ (by omega),
    toNat_of_eq_ofNat ?_ (by omega), ?_⟩
  iterate 4
    · repeat refine extract_above ?_ (by decide)
      exact BitVec.extractLsb'_append_eq_right
  · rw [hmask]
    repeat' apply masked_append
    all_goals simp only [↓BitVec.and_allOnes, BitVec.zero_and]

theorem Port.linkStatusWord_fields (q : Port) :
    let w := q.linkStatusWord
    w.extractLsb' 0 2 = q.link.code ∧ w.extractLsb' 4 3 = q.phase.code ∧ w.extractLsb' 8 4 = q.lossCause.code ∧
      w.getLsbD 12 = q.carrier ∧ w.getLsbD 13 = q.station.valid ∧ w.getLsbD 14 = q.station.attention ∧
      w.extractLsb' 16 4 = q.effectiveWindow ∧ w.extractLsb' 20 4 = q.station.advertised ∧ w &&& 0x00FF7F73#32 = w := by
  have hmask : 0x00FF7F73#32 = 0#8 ++ BitVec.allOnes 4 ++ BitVec.allOnes 4 ++ 0#1 ++ BitVec.allOnes 1 ++ BitVec.allOnes 1 ++
    BitVec.allOnes 1 ++ BitVec.allOnes 4 ++ 0#1 ++ BitVec.allOnes 3 ++ 0#2 ++ BitVec.allOnes 2 := by decide
  unfold Port.linkStatusWord
  refine ⟨?_, ?_, ?_, ?_, ?_, ?_, ?_, ?_, ?_⟩
  iterate 3
    · repeat refine extract_above ?_ (by decide)
      exact BitVec.extractLsb'_append_eq_right
  iterate 3
    · repeat refine bit_above ?_ (by decide)
      exact bit_lowest _
  iterate 2
    · repeat refine extract_above ?_ (by decide)
      exact BitVec.extractLsb'_append_eq_right
  · rw [hmask]
    repeat' apply masked_append
    all_goals simp only [↓BitVec.and_allOnes, BitVec.zero_and]

theorem Port.identityWord_fields (q : Port) :
    let w := q.identityWord
    w.extractLsb' 0 16 = q.station.cls ∧ w.extractLsb' 16 8 = q.station.revision ∧ w &&& 0x00FFFFFF#32 = w := by
  have hmask : 0x00FFFFFF#32 = 0#8 ++ BitVec.allOnes 8 ++ BitVec.allOnes 16 := by decide
  unfold Port.identityWord
  refine ⟨?_, ?_, ?_⟩
  iterate 2
    · repeat refine extract_above ?_ (by decide)
      exact BitVec.extractLsb'_append_eq_right
  · rw [hmask]
    repeat' apply masked_append
    all_goals simp only [↓BitVec.and_allOnes, BitVec.zero_and]

theorem Port.statusWord_fields (q : Port) :
    let w := q.statusWord
    w.extractLsb' 0 1 = q.queue.code ∧ w.extractLsb' 8 2 = q.commandResult.code ∧ w &&& 0x00000301#32 = w := by
  have hmask : 0x00000301#32 = 0#22 ++ BitVec.allOnes 2 ++ 0#7 ++ BitVec.allOnes 1 := by decide
  unfold Port.statusWord
  refine ⟨?_, ?_, ?_⟩
  iterate 2
    · repeat refine extract_above ?_ (by decide)
      exact BitVec.extractLsb'_append_eq_right
  · rw [hmask]
    repeat' apply masked_append
    all_goals simp only [↓BitVec.and_allOnes, BitVec.zero_and]

/-! ## The words of the event queue -/

theorem EventQueue.statusWord_fields {e : EventQueue} (h : e.Sound) :
    let w := e.statusWord
    (w.extractLsb' 0 7).toNat = e.records.length ∧ w.extractLsb' 8 8 = e.lost ∧ w.getLsbD 16 = (e.holdoff == .runOut) ∧
      w.getLsbD 17 = e.line ∧ w.extractLsb' 24 2 = e.popResult.code ∧ w &&& 0x0303FF7F#32 = w := by
  have hbound := h.bound
  have hmask : 0x0303FF7F#32 = 0#6 ++ BitVec.allOnes 2 ++ 0#6 ++ BitVec.allOnes 1 ++ BitVec.allOnes 1 ++ BitVec.allOnes 8 ++
    0#1 ++ BitVec.allOnes 7 := by decide
  unfold EventQueue.statusWord
  refine ⟨toNat_of_eq_ofNat ?_ (by omega), ?_, ?_, ?_, ?_, ?_⟩
  iterate 2
    · repeat refine extract_above ?_ (by decide)
      exact BitVec.extractLsb'_append_eq_right
  iterate 2
    · repeat refine bit_above ?_ (by decide)
      exact bit_lowest _
  · repeat refine extract_above ?_ (by decide)
    exact BitVec.extractLsb'_append_eq_right
  · rw [hmask]
    repeat' apply masked_append
    all_goals simp only [↓BitVec.and_allOnes, BitVec.zero_and]

theorem EventKind.code_lt (k : EventKind) : k.code < 16 := by cases k <;> decide

theorem EventRecord.word0_fields (r : EventRecord) :
    let w := r.word0
    (w.extractLsb' 0 4).toNat = r.offer.kind.code ∧ (w.extractLsb' 4 2).toNat = r.offer.port.val ∧
      w.extractLsb' 8 4 = r.offer.cause.code ∧ w.extractLsb' 16 8 = r.lostBefore ∧ w &&& 0x00FF0F3F#32 = w := by
  have hmask : 0x00FF0F3F#32 = 0#8 ++ BitVec.allOnes 8 ++ 0#4 ++ BitVec.allOnes 4 ++ 0#2 ++ BitVec.allOnes 2 ++
    BitVec.allOnes 4 := by decide
  unfold EventRecord.word0
  refine ⟨toNat_of_eq_ofNat ?_ r.offer.kind.code_lt, toNat_of_eq_ofNat (n := r.offer.port.val) ?_ r.offer.port.isLt,
    ?_, ?_, ?_⟩
  iterate 4
    · repeat refine extract_above ?_ (by decide)
      exact BitVec.extractLsb'_append_eq_right
  · rw [hmask]
    repeat' apply masked_append
    all_goals simp only [↓BitVec.and_allOnes, BitVec.zero_and]

/-- Word 3 of an event record as a number, by kind (Table 11-8). -/
theorem Detail.word_toNat (d : Detail) : d.word.toNat = match d with
    | .none => 0
    | .sequence q => q.toNat
    | .identity c r => c.toNat + 65536 * r.toNat
    | .cls c => c.toNat
    | .returned n => n % 16
    | .readSlot n m => n.val + 16 * m.val
    | .requestSlot n => n.val
    | .counts posted reads requests => posted % 32 + 256 * (reads % 32) + 65536 * (requests % 32) := by
  cases d with
  | none => rfl
  | sequence q =>
    rw [Detail.word, toNat_append_add]
    simp
  | identity cls rev =>
    rw [Detail.word, toNat_append_add, toNat_append_add]
    simp
    omega
  | cls cls =>
    rw [Detail.word, toNat_append_add]
    simp
  | returned n =>
    rw [Detail.word, toNat_append_add]
    simp
  | readSlot n m =>
    rw [Detail.word, toNat_append_add, toNat_append_add, toNat_append_add]
    simp
    omega
  | requestSlot n =>
    rw [Detail.word, toNat_append_add]
    simp
  | counts w r q =>
    rw [Detail.word, toNat_append_add, toNat_append_add, toNat_append_add, toNat_append_add, toNat_append_add]
    simp
    omega

/-! ## The words of the slots and the identity -/

theorem slotStatusWord_fields (x : ReadSlot) :
    let w := slotStatusWord (some x) 0
    w.extractLsb' 0 2 = x.state.code ∧ (w.extractLsb' 4 2).toNat = x.key.master.val ∧ w.extractLsb' 8 2 = sizeCode x.key.size ∧
      (w.extractLsb' 12 2).toNat = x.port.val ∧ w.extractLsb' 16 4 = x.state.failCause.code ∧ w &&& 0x000F3333#32 = w := by
  have hmask : 0x000F3333#32 = 0#12 ++ BitVec.allOnes 4 ++ 0#2 ++ BitVec.allOnes 2 ++ 0#2 ++ BitVec.allOnes 2 ++ 0#2 ++
    BitVec.allOnes 2 ++ 0#2 ++ BitVec.allOnes 2 := by decide
  unfold slotStatusWord
  dsimp only
  rw [if_pos rfl]
  refine ⟨?_, toNat_of_eq_ofNat (n := x.key.master.val) ?_ x.key.master.isLt, ?_,
    toNat_of_eq_ofNat (n := x.port.val) ?_ x.port.isLt, ?_, ?_⟩
  iterate 5
    · repeat refine extract_above ?_ (by decide)
      exact BitVec.extractLsb'_append_eq_right
  · rw [hmask]
    repeat' apply masked_append
    all_goals simp only [↓BitVec.and_allOnes, BitVec.zero_and]

theorem RequestSlot.statusWord_fields (x : RequestSlot) :
    let w := x.statusWord
    w.extractLsb' 0 2 = x.state.code ∧ w.extractLsb' 8 4 = x.state.result.code ∧ w.extractLsb' 16 2 = x.commandResult.code ∧
      w &&& 0x00030F03#32 = w := by
  have hmask : 0x00030F03#32 = 0#14 ++ BitVec.allOnes 2 ++ 0#4 ++ BitVec.allOnes 4 ++ 0#6 ++ BitVec.allOnes 2 := by decide
  unfold RequestSlot.statusWord
  refine ⟨?_, ?_, ?_, ?_⟩
  iterate 3
    · repeat refine extract_above ?_ (by decide)
      exact BitVec.extractLsb'_append_eq_right
  · rw [hmask]
    repeat' apply masked_append
    all_goals simp only [↓BitVec.and_allOnes, BitVec.zero_and]

theorem identityWord_toNat (pins : BitVec 4) : (identityWord pins).toNat = 0x06340100 + 16 * pins.toNat := by
  rw [identityWord, toNat_append_add, toNat_append_add, toNat_append_add]
  simp [Config.partCode, Config.siliconRevision]
  omega

/-- Settles O25, word by word. -/
theorem statusWordsShowTheState : Obligations.StatusWordsShowTheState := by
  refine ⟨fun s p hq => ⟨Port.queueStatusWord_fields hq, (s.port p).linkStatusWord_fields, (s.port p).identityWord_fields,
      (s.port p).statusWord_fields, rfl, rfl, rfl⟩,
    fun s he => ⟨EventQueue.statusWord_fields he, rfl, fun hnil k => ?_, fun r rest hcons => ?_⟩,
    fun s n => ⟨fun hnone k => ?_, fun x hx => ?_, ?_, identityWord_toNat s.pins⟩, rfl, rfl, rfl, rfl, rfl, rfl⟩
  · show s.events.headWord k = 0
    rw [EventQueue.headWord, hnil]
  · have hhead : ∀ k, s.readReg (.eventHead k) = if k = 0 then r.word0 else if k = 1 then r.timestamp
        else if k = 2 then r.offer.address else r.offer.detail.word := by
      intro k
      show s.events.headWord k = _
      rw [EventQueue.headWord, hcons]
    rw [hhead 0, hhead 1, hhead 2, hhead 3]
    exact ⟨r.word0_fields, rfl, rfl, r.offer.detail.word_toNat⟩
  · show slotStatusWord (s.readSlot n) k = 0
    rw [hnone]
    rfl
  · have hword : ∀ k, s.readReg (.slotStatus n k) = slotStatusWord (some x) k := by
      intro k
      show slotStatusWord (s.readSlot n) k = _
      rw [hx]
    rw [hword 0, hword 1, hword 2]
    obtain ⟨h1, h2, h3, h4, h5, h6⟩ := slotStatusWord_fields x
    refine ⟨⟨h1.trans ?_, h2, h3.trans ?_, h4, h5.trans ?_, h6⟩, rfl, rfl⟩
    · cases x.state <;> rfl
    · cases x.key.size <;> rfl
    · cases x.state <;> rfl
  · obtain ⟨h1, h2, h3, h4⟩ := (s.request n).statusWord_fields
    refine ⟨h1.trans ?_, h2.trans ?_, h3, h4⟩
    · cases (s.request n).state <;> rfl
    · cases (s.request n).state <;> rfl

end Sys2Proof.Machine
end

section
/-! PROOF. O31, O35, O56 and O59: counter reads, DISABLE, the end of a transmission and changes of carrier. -/

namespace Sys2Proof.Machine

/-! ## Counter reads -/

theorem State.present_readAccess {s : State} (h : s.Ready) (r : Reg) :
    s.present true (fun s => s.readAccess r) = (s.clearOnRead r).withAnswer (.ackWord (s.readReg r)) :=
  State.present_of_ready h rfl _

/-- Settles O31: each row reads the register of its counter. -/
theorem counterReadsClear : Obligations.CounterReadsClear := by
  intro s p h
  have row := fun r => congrArg (Host.Outcome.next (φ := Fault) (ρ := Refusal)) (State.present_readAccess h r)
  exact ⟨row (.port p .crcErrors), row (.port p .malformedFrames), row (.port p .retransmissions),
    row (.port p .staleResponses), row (.port p .probeAttempts), row (.port p .mirrorLost), row .refusals, row .invalidations⟩

/-! ## DISABLE -/

theorem exec_disable {s : State} (hr : s.Ready) (p : PortId) :
    exec (.disable p) s = .next ((s.disablePort p).withAnswer .ack) := by
  show Host.Outcome.next (s.presentCommand _) = _
  rw [State.presentCommand_of_ready hr]

/-- The records DISABLE takes are the whole pool, while no access is in progress (R95). -/
theorem State.Lawful.allRecords {s : State} (h : s.Lawful) (hb : s.target.access = none) (p : PortId) :
    (s.port p).allRecords = (s.port p).pool := by
  obtain ⟨hpri, hnor⟩ := h.all_queued hb p
  rw [Port.allRecords, Port.queuedRecords, hpri, hnor, ← List.append_assoc]
  rfl

/-- A removal in one happening: the port is changed, the records of its pool are removed, each producer is given its outcome,
and FLUSHED is offered last (R90, R94, R95). -/
def State.removal (s : State) (p : PortId) (f : Port → Port) (cause : Cause) (rs : List Record) : State :=
  ((s.modPort p f).settleAll p cause rs).offerFlushed p rs

theorem State.removal_port (s : State) (p : PortId) (f : Port → Port) (cause : Cause) (rs : List Record) :
    (s.removal p f cause rs).port p = { f (s.port p) with
      postedDrop := (f (s.port p)).postedDrop + BitVec.ofNat 32 (rs.filter (fun r => r.source == .posted)).length } := by
  rw [State.removal, State.offerFlushed_port, State.settleAll_port, State.modPort_port_self]

theorem State.removal_readSlot (s : State) (p : PortId) (f : Port → Port) (cause : Cause) (rs : List Record) (n : SlotId) :
    (s.removal p f cause rs).readSlot n = s.slotAfterRemoval cause rs n := by
  rw [State.removal, State.readSlot, (State.offerFlushed_rest _ p rs).1]
  exact State.settleAll_readSlot p cause rs (s.modPort p f) n

theorem State.removal_request (s : State) (p : PortId) (f : Port → Port) (cause : Cause) (rs : List Record) (n : SlotId) :
    (s.removal p f cause rs).request n = s.requestAfterRemoval cause rs n := by
  rw [State.removal, State.request, (State.offerFlushed_rest _ p rs).2]
  exact State.settleAll_request p cause rs (s.modPort p f) n

theorem State.removal_reads (s : State) (p : PortId) (f : Port → Port) (cause : Cause) (rs : List Record) :
    (s.removal p f cause rs).reads.refusals = s.reads.refusals ∧
      (s.removal p f cause rs).reads.invalidations = s.reads.invalidations := by
  obtain ⟨href, hinv, -⟩ := State.settleAll_reads p cause rs (s.modPort p f)
  rw [State.removal, (State.offerFlushed_rest _ p rs).1]
  exact ⟨href, hinv⟩

/-- Each REQUEST record of a lawful pool is the one record of a SUBMITTED slot, so each offers REQUEST_DONE as its slot asks
(R136, R143). -/
theorem State.removal_events {s : State} (h : s.RequestLaw) {p : PortId} {rs : List Record} (hrs : rs.Sublist (s.port p).pool)
    (f : Port → Port) (cause : Cause) :
    (s.removal p f cause rs).events =
      s.events.offerAll s.now (s.doneOffers cause rs ++ if rs = [] then [] else [flushedOffer p rs]) := by
  have settled : ((s.modPort p f).settleAll p cause rs).events = s.events.offerAll s.now (s.doneOffers cause rs) :=
    State.settleAll_events p cause rs (s.modPort p f) (fun r hr n hn => h.submitted (hrs.subset hr) hn) (h.once hrs)
  have hnow : ((s.modPort p f).settleAll p cause rs).now = s.now :=
    State.shell_now (State.within_settleAll p cause rs (s.modPort p f)).shell
  rw [State.removal, State.offerFlushed_events, settled, hnow, ← EventQueue.offerAll_append]

/-- Settles O35: DISABLE of a port that is not OFF is the removal of its whole pool from the port torn down. -/
theorem disableTearsThePortDown : Obligations.DisableTearsThePortDown := by
  intro s p hr hs hoff
  have hdisable : s.disablePort p = s.removal p Port.tornDown .disabled (s.port p).pool := by
    rw [State.disablePort, if_neg hoff, hs.allRecords hr.busFree]
    rfl
  have hw := s.within_disablePort p
  obtain ⟨href, hinv⟩ := s.removal_reads p Port.tornDown .disabled (s.port p).pool
  refine ⟨(s.disablePort p).withAnswer .ack, exec_disable hr p, rfl, ?_⟩
  rw [hdisable] at hw ⊢
  exact ⟨s.removal_port p _ _ _, hw.others, s.removal_readSlot p _ _ _, s.removal_request p _ _ _,
    State.removal_events hs.requests (.refl _) _ _, (State.shell_windows hw.shell :), (State.shell_target hw.shell :), href, hinv⟩

/-! ## The end of a transmission -/

/-- The end of the frame in transmission is reported by a transmitter that is free again, and the arbiter chooses (R27). -/
theorem State.endTransmission_of_sending {s : State} {p : PortId} {t : Transmission} (h : (s.port p).transmitter = some t) :
    s.endTransmission p =
      (s.setPort p (Port.reportEnd { s.port p with transmitter := none } t.frame s.now)).arbitrate p := by
  rw [State.endTransmission, h]
  rfl

theorem BridgeFrame.isProbe_iff (f : BridgeFrame) : f.isProbe = true ↔ ∃ n, f = .probe n := by
  cases f <;> simp [BridgeFrame.isProbe]

theorem Port.oldestIs_iff (q : Port) (n : Seq) : q.oldestIs n = true ↔ ∃ w rest, q.window = w :: rest ∧ w.seq = n := by
  unfold Port.oldestIs
  cases q.window <;> simp

/-- Settles O56, by the frame that ends. -/
theorem transmissionEndIsReported : Obligations.TransmissionEndIsReported := by
  intro s p
  refine ⟨fun h => ?_, fun f resend h => ?_⟩
  · show Host.Outcome.next (s.endTransmission p) = _
    rw [State.endTransmission, h]
  have hend : exec (.transmissionEnd p) s = .next (s.endTransmission p) := rfl
  rw [hend, State.endTransmission_of_sending h]
  unfold Port.reportEnd
  by_cases hp : f.isProbe = true
  · obtain ⟨n, rfl⟩ := (BridgeFrame.isProbe_iff f).1 hp
    rw [if_pos hp]
    refine ⟨fun hprobe => ?_, fun ht => absurd rfl (ht.1 n), fun hprobe _ => ?_⟩
    · rw [if_pos hprobe.2]
      rfl
    · rw [if_neg fun hc => hprobe ⟨⟨n, rfl⟩, hc⟩]
  · have hne : ¬ ∃ n, f = .probe n := mt (BridgeFrame.isProbe_iff f).2 hp
    rw [if_neg hp]
    have hcond : (Port.oldestIs { s.port p with transmitter := none } f.seq && (s.port p).backoff.isNone) = true ↔
        (∃ w rest, (s.port p).window = w :: rest ∧ w.seq = f.seq) ∧ (s.port p).backoff = none := by
      rw [Bool.and_eq_true, Port.oldestIs_iff, Option.isNone_iff_eq_none]
    refine ⟨fun hprobe => absurd hprobe.1 hne, fun ht => ?_, fun _ ht => ?_⟩
    · rw [if_pos (hcond.2 ht.2)]
      rfl
    · rw [if_neg fun hc => ht ⟨fun n hn => hne ⟨n, hn⟩, hcond.1 hc⟩]

/-! ## Carrier -/

/-- What the loss of carrier makes of a port: a partial frame is counted unless the port is OFF (R35, R36). -/
theorem Port.carrierGone_eq (q : Port) : q.dropPartial.setCarrier false = { q with
    receiver := .hunt false
    carrier := false
    malformedFrames := if q.link ≠ .off ∧ q.receiver.hunting = false then
      (if q.malformedFrames = 65535#16 then 65535#16 else q.malformedFrames + 1) else q.malformedFrames } := by
  unfold Port.dropPartial
  by_cases hl : q.link = .off
  · simp [hl, Port.setCarrier]
  · cases hh : q.receiver.hunting
    · simp [hl, Port.setCarrier, Port.countMalformed, satSucc16_eq]
    · simp [hl, Port.setCarrier]

theorem State.loseCarrier_of_present {s : State} {p : PortId} (h : (s.port p).carrier = true) :
    s.loseCarrier p = if (s.port p).link = .up
      then (s.modPort p fun q => q.dropPartial.setCarrier false).loseLink p .carrier
      else s.modPort p fun q => q.dropPartial.setCarrier false := by
  rw [State.loseCarrier, h]
  rfl

/-- Settles O59, by the carrier status and the link state. -/
theorem carrierChanges : Obligations.CarrierChanges := by
  intro s p
  have hlost : exec (.carrierLost p) s = .next (s.loseCarrier p) := rfl
  have hback : exec (.carrierRegained p) s = .next (s.regainCarrier p) := rfl
  rw [hlost, hback]
  dsimp only
  rw [← Port.carrierGone_eq]
  refine ⟨fun hc hl => ?_, fun hc hl => ?_, fun hc => ?_, fun hc => ?_, fun hc => ?_⟩
  · rw [State.loseCarrier_of_present hc, if_pos hl]
    rfl
  · rw [State.loseCarrier_of_present hc, if_neg hl]
    rfl
  · rw [State.loseCarrier, hc]
    rfl
  · rw [State.regainCarrier, hc]
    rfl
  · rw [State.regainCarrier, hc]
    rfl

end Sys2Proof.Machine
end

section
/-! PROOF. O53, O54 and O60: the CRC, the frames on the line, and what the byte receiver makes of them. -/

namespace Sys2Proof.Machine

/-! ## The CRC -/

/-- The polynomial is odd, so the lowest bit after a step says whether the bit that left differed from the incoming one (R22). -/
theorem crcBit_lsb (reg : BitVec 16) (b : Bool) : (crcBit reg b).getMsbD 15 = (reg.msb != b) := by
  have hshift : (reg <<< 1).getMsbD 15 = false := by simp [BitVec.getMsbD_shiftLeft]
  have hodd : Config.crcPolynomial.getMsbD 15 = true := by decide
  unfold crcBit
  split
  · rename_i h
    rw [BitVec.getMsbD_xor, hshift, hodd, h]
    rfl
  · rename_i h
    rw [hshift, Bool.eq_false_of_not_eq_true h]

/-- Bits of a message, at most as many as the register holds, leave 0 exactly when the register began with those very bits
(R22). -/
theorem crcBits_eq_zero_iff (bits : List Bool) (reg : BitVec 16) (h : bits.length ≤ 16) :
    bits.foldl crcBit reg = 0 ↔ ∀ i, reg.getMsbD i = bits.getD i false := by
  induction bits generalizing reg with
  | nil =>
    simp only [List.foldl_nil, List.getD_nil]
    exact ⟨fun hz i => by simp [hz], fun hz => BitVec.eq_of_getMsbD_eq fun i _ => by simp [hz i]⟩
  | cons b bits ih =>
    have hlen : bits.length ≤ 15 := Nat.le_of_succ_le_succ h
    rw [List.foldl_cons, ih _ (by omega)]
    have hlast : bits.getD 15 false = false := by simp [List.getD_eq_getElem?_getD, hlen]
    have hkeep : reg.msb = b → crcBit reg b = reg <<< 1 := fun hb => by simp [crcBit, hb]
    constructor
    · intro hbits
      have hb : reg.msb = b := by
        have := hbits 15
        rw [crcBit_lsb, hlast] at this
        simpa using this
      rintro (_ | i)
      · simpa [BitVec.msb] using hb
      · have := hbits i
        rw [hkeep hb, BitVec.getMsbD_shiftLeft] at this
        rw [List.getD_cons_succ, ← this]
    · intro hbits
      have hb : reg.msb = b := by simpa [BitVec.msb] using hbits 0
      intro i
      rw [hkeep hb, BitVec.getMsbD_shiftLeft]
      simpa using hbits (i + 1)

/-- The bits of a byte, numbered from the most significant. -/
theorem byteBits_getD (b : Byte) (i : Nat) : (byteBits b).getD i false = b.getMsbD i := by
  by_cases h : i < 8
  · interval_cases i <;> rfl
  · rw [List.getD_eq_default _ _ (Nat.le_of_not_lt h), BitVec.getMsbD_eq_getLsbD, decide_eq_false h, Bool.false_and]

/-- A frame passes its CRC check exactly when its two CRC bytes are the CRC of what stands before them (R22). -/
theorem crc_append_eq_zero_iff (b : List Byte) (hi lo : Byte) : crc (b ++ [hi, lo]) = 0 ↔ hi ++ lo = crc b := by
  have hfold : crc (b ++ [hi, lo]) = (byteBits hi ++ byteBits lo).foldl crcBit (crc b) := by
    rw [crc, List.foldl_append, List.foldl_append]
    rfl
  have hbits : ∀ i, (byteBits hi ++ byteBits lo).getD i false = (hi ++ lo).getMsbD i := by
    intro i
    rw [BitVec.getMsbD_append]
    split
    · rename_i h
      rw [List.getD_append_right _ _ _ _ h]
      exact byteBits_getD lo (i - 8)
    · rename_i h
      rw [List.getD_append _ _ _ _ (Nat.lt_of_not_le h), byteBits_getD]
  rw [hfold, crcBits_eq_zero_iff _ _ (by exact Nat.le_refl 16)]
  simp only [hbits]
  exact ⟨fun h => BitVec.eq_of_getMsbD_eq fun i _ => (h i).symm, fun h i => by rw [h]⟩

/-- Settles O60: the bytes are those of the tables, and the CRC check is `crc_append_eq_zero_iff`. -/
theorem framesAreBuiltAndChecked : Obligations.FramesAreBuiltAndChecked :=
  ⟨fun _ _ _ => ⟨rfl, fun _ => rfl, rfl⟩, crc_append_eq_zero_iff⟩

/-! ## Headers and bodies of station frames -/

/-- The kind of frame that carries a body (R20). -/
def StationBody.kind : StationBody → StationKind
  | .ack => .ack
  | .data _ => .data
  | .reject _ _ => .reject
  | .ident _ _ _ => .ident

/-- The kind code of a station frame (Table 11-10). -/
def StationKind.code : StationKind → BitVec 4
  | .ack => 8
  | .data => 9
  | .reject => 10
  | .ident => 11

theorem StationKind.ofCode_eq_some {k : StationKind} : ∀ {c : BitVec 4}, StationKind.ofCode c = some k → c = k.code := by
  cases k <;> decide

/-- The first byte of a station frame's header: the attention flag above the kind code (R163). -/
def StationFrame.kindByte (f : StationFrame) : Byte :=
  bif f.attention then 0x80#8 ||| f.body.code.setWidth 8 else f.body.code.setWidth 8

theorem StationFrame.headerAndBody_eq (f : StationFrame) :
    f.headerAndBody = f.kindByte :: f.seq.setWidth 8 :: BitVec.ofNat 8 f.body.bytes.length :: f.body.bytes := rfl

/-- The attention flag and the kind code are read back from the byte that carries both (R163). -/
theorem flaggedCode_fields : ∀ (flag : Bool) (c : BitVec 4),
    (bif flag then 0x80#8 ||| c.setWidth 8 else c.setWidth 8).extractLsb' 0 4 = c ∧
      (bif flag then 0x80#8 ||| c.setWidth 8 else c.setWidth 8).getLsbD 7 = flag := by decide

theorem StationBody.ofCode_code (b : StationBody) : StationKind.ofCode b.code = some b.kind := by
  cases b <;> rfl

theorem StationFrame.kindByte_fields (f : StationFrame) :
    StationKind.ofCode (f.kindByte.extractLsb' 0 4) = some f.body.kind ∧ f.kindByte.getLsbD 7 = f.attention := by
  obtain ⟨hcode, hflag⟩ := flaggedCode_fields f.attention f.body.code
  refine ⟨?_, hflag⟩
  rw [StationFrame.kindByte, hcode, StationBody.ofCode_code]

theorem seqByte_fields (q : Seq) : (q.setWidth 8).toNat < 16 ∧ (q.setWidth 8).extractLsb' 0 4 = q := by
  have h := q.isLt
  have hn : (q.setWidth 8).toNat = q.toNat := by
    rw [BitVec.toNat_setWidth]
    omega
  refine ⟨hn ▸ h, BitVec.eq_of_toNat_eq ?_⟩
  rw [BitVec.extractLsb'_toNat, hn, Nat.shiftRight_zero, Nat.mod_eq_of_lt h]

/-- The header of a station frame, as the receiver decodes it. -/
def StationFrame.header (f : StationFrame) : Header :=
  ⟨[f.kindByte, f.seq.setWidth 8, BitVec.ofNat 8 f.body.bytes.length], f.attention, f.body.kind, f.seq, f.body.bytes.length⟩

/-- A body whose length its kind allows: a DATA body of 1 to 16 bytes, any other body (R21). -/
def StationBody.lengthAllowed : StationBody → Bool
  | .data d => dataLengthAllowed d
  | _ => true

theorem StationFrame.lengthAllowed_of_good {f : StationFrame} (h : f.good = true) : f.body.lengthAllowed = true := by
  unfold StationFrame.good at h
  unfold StationBody.lengthAllowed
  cases hb : f.body with
  | data d => simpa [hb] using h
  | ack => rfl
  | reject c e => rfl
  | ident c r w => rfl

/-- The length byte of a body calls for just its bytes (R21). -/
theorem StationBody.bodyBytes_length {b : StationBody} (h : b.lengthAllowed = true) :
    b.kind.bodyBytes (BitVec.ofNat 8 b.bytes.length) = some b.bytes.length := by
  cases b with
  | data d =>
    obtain ⟨hmin, hmax⟩ : 1 ≤ d.length ∧ d.length ≤ 16 := by
      simpa [StationBody.lengthAllowed, dataLengthAllowed] using h
    have hn : (BitVec.ofNat 8 d.length).toNat = d.length := by
      rw [BitVec.toNat_ofNat]
      omega
    simp only [StationBody.kind, StationBody.bytes, StationKind.bodyBytes, hn]
    exact if_pos ⟨hmin, hmax⟩
  | ack => rfl
  | reject c e => rfl
  | ident c r w => rfl

/-- The receiver decodes the header of a station frame (R32, R163). -/
theorem StationFrame.parseHeader_eq {f : StationFrame} (h : f.body.lengthAllowed = true) :
    parseHeader f.kindByte (f.seq.setWidth 8) (BitVec.ofNat 8 f.body.bytes.length) = some f.header := by
  obtain ⟨hkind, hflag⟩ := f.kindByte_fields
  obtain ⟨hseq, hlow⟩ := seqByte_fields f.seq
  rw [parseHeader, hkind]
  dsimp only
  rw [if_neg (Nat.not_le.2 hseq), StationBody.bodyBytes_length h]
  dsimp only
  rw [hflag, hlow]
  rfl

/-- A header is malformed unless its kind is a station's, its sequence is below 16 and its length is its kind's (R32). -/
theorem parseHeader_eq_none {b0 b1 b2 : Byte}
    (h : ¬ (b1.toNat < 16 ∧ (b0.toNat % 16 = 8 ∧ b2 = 0 ∨ b0.toNat % 16 = 9 ∧ 1 ≤ b2.toNat ∧ b2.toNat ≤ 16 ∨
      b0.toNat % 16 = 10 ∧ b2 = 2 ∨ b0.toNat % 16 = 11 ∧ b2 = 4))) : parseHeader b0 b1 b2 = none := by
  unfold parseHeader
  cases hk : StationKind.ofCode (b0.extractLsb' 0 4) with
  | none => rfl
  | some k =>
    dsimp only
    split
    · rfl
    · rename_i hseq
      have hlength : k.bodyBytes b2 = none := by
        have hcode : b0.toNat % 16 = k.code.toNat := by
          rw [← StationKind.ofCode_eq_some hk, BitVec.extractLsb'_toNat, Nat.shiftRight_zero]
        have hnot := fun hb => h ⟨Nat.lt_of_not_le hseq, hb⟩
        cases k with
        | ack => exact if_neg fun hn => hnot (.inl ⟨hcode, BitVec.eq_of_toNat_eq hn⟩)
        | data => exact if_neg fun hn => hnot (.inr (.inl ⟨hcode, hn⟩))
        | reject => exact if_neg fun hn => hnot (.inr (.inr (.inl ⟨hcode, BitVec.eq_of_toNat_eq hn⟩)))
        | ident => exact if_neg fun hn => hnot (.inr (.inr (.inr ⟨hcode, BitVec.eq_of_toNat_eq hn⟩)))
      rw [hlength]

theorem rejectOfByte_rejectByte (c : RejectCause) : rejectOfByte (rejectByte c) = some c := by
  cases c <;> rfl

theorem rejectOfByte_eq_none {b : Byte} (h : b.toNat = 0 ∨ 4 < b.toNat) : rejectOfByte b = none := by
  have hne : ∀ n, 1 ≤ n → n ≤ 4 → b ≠ BitVec.ofNat 8 n := by
    rintro n hmin hmax rfl
    rw [BitVec.toNat_ofNat] at h
    omega
  rw [rejectOfByte, if_neg (by exact hne 1 (by decide) (by decide)), if_neg (by exact hne 2 (by decide) (by decide)),
    if_neg (by exact hne 3 (by decide) (by decide)), if_neg (by exact hne 4 (by decide) (by decide))]

/-- A REJECT body is malformed by its cause or by its expected sequence (R34). -/
theorem parseBody_reject_eq_none {cause expected : Byte}
    (h : cause.toNat = 0 ∨ 4 < cause.toNat ∨ 16 ≤ expected.toNat) : parseBody .reject [cause, expected] = none := by
  unfold parseBody
  dsimp only
  cases hc : rejectOfByte cause with
  | none => rfl
  | some c =>
    have hexpected : 16 ≤ expected.toNat := by
      obtain hzero | hbig | hexp := h
      · rw [rejectOfByte_eq_none (.inl hzero)] at hc; cases hc
      · rw [rejectOfByte_eq_none (.inr hbig)] at hc; cases hc
      · exact hexp
    exact if_pos hexpected

theorem hiByte_append_loByte (v : BitVec 16) : hiByte v ++ loByte v = v :=
  (BitVec.extractLsb'_append_extractLsb'_eq_extractLsb' rfl).trans BitVec.extractLsb'_eq_self

/-- The receiver accepts the body of a station frame exactly when the frame is good (R34). -/
theorem StationFrame.parseBody_eq {f : StationFrame} (h : f.body.lengthAllowed = true) :
    parseBody f.body.kind f.body.bytes = if f.good = true then some f.body else none := by
  obtain ⟨attention, seq, body⟩ := f
  cases body with
  | ack => rfl
  | data d => exact (if_pos h).symm
  | reject c e =>
    obtain ⟨hexp, hlow⟩ := seqByte_fields e
    simp only [StationBody.kind, StationBody.bytes, parseBody, rejectOfByte_rejectByte, if_neg (Nat.not_le.2 hexp), hlow]
    rfl
  | ident c r w =>
    simp only [StationBody.kind, StationBody.bytes, parseBody, hiByte_append_loByte]
    rfl

/-! ## The byte receiver -/

theorem receiveBytes_cons (r : Receiver) (b : Byte) (bs : List Byte) :
    receiveBytes r (b :: bs) = ((receiveBytes (receiveByte r b).1 bs).1,
      (receiveByte r b).2.toList ++ (receiveBytes (receiveByte r b).1 bs).2) := rfl

/-- The sync pair begins a frame, armed or not (R31). -/
theorem receiveBytes_sync (armed : Bool) (bs : List Byte) :
    receiveBytes (.hunt armed) (Config.sync0 :: Config.sync1 :: bs) = receiveBytes (.header []) bs := by
  have h0 : receiveByte (.hunt armed) Config.sync0 = (.hunt true, none) := by cases armed <;> rfl
  have h1 : receiveByte (.hunt true) Config.sync1 = (.header [], none) := rfl
  rw [receiveBytes_cons, h0, receiveBytes_cons, h1]
  rfl

/-- A header that passes its check is followed by its body (R32). -/
theorem receiveBytes_header {b0 b1 b2 : Byte} {h : Header} (hp : parseHeader b0 b1 b2 = some h) (bs : List Byte) :
    receiveBytes (.header []) (b0 :: b1 :: b2 :: bs) = receiveBytes (enterBody h) bs := by
  have h2 : receiveByte (.header [b0, b1]) b2 = (enterBody h, none) := by rw [receiveByte, hp]
  show receiveBytes (.header [b0, b1]) (b2 :: bs) = _
  rw [receiveBytes_cons, h2]
  rfl

/-- A header that fails its check ends the frame (R32). -/
theorem receiveBytes_bad_header {b0 b1 b2 : Byte} (hp : parseHeader b0 b1 b2 = none) :
    receiveBytes (.header []) [b0, b1, b2] = (.hunt false, [.malformed]) := by
  have h2 : receiveByte (.header [b0, b1]) b2 = (.hunt false, some .malformed) := by rw [receiveByte, hp]
  show receiveBytes (.header [b0, b1]) [b2] = _
  rw [receiveBytes_cons, h2]
  rfl

/-- The bytes that a body still lacks complete it (R32). -/
theorem receiveBytes_body (h : Header) (body : List Byte) (taken rest : List Byte) (hne : body ≠ [])
    (hlen : taken.length + body.length = h.bodyBytes) :
    receiveBytes (.body h taken) (body ++ rest) = receiveBytes (.check h (taken ++ body) []) rest := by
  induction body generalizing taken with
  | nil => exact absurd rfl hne
  | cons b body ih =>
    rw [List.length_cons] at hlen
    rw [List.cons_append, receiveBytes_cons]
    cases body with
    | nil =>
      have hb : receiveByte (.body h taken) b = (.check h (taken ++ [b]) [], none) :=
        if_neg (by rw [← hlen]; exact Nat.lt_irrefl _)
      rw [hb]
      rfl
    | cons c body =>
      have hb : receiveByte (.body h taken) b = (.body h (taken ++ [b]), none) :=
        if_pos (by rw [← hlen, List.length_cons]; omega)
      rw [hb]
      dsimp only
      rw [ih (taken ++ [b]) (List.cons_ne_nil _ _) (by rw [List.length_append, List.length_singleton]; omega), List.append_assoc]
      rfl

/-- A whole frame, its sync pair first, ends with what the CRC check and the check of its body make of it (R30 to R34). -/
theorem receiveBytes_frame {b0 b1 b2 : Byte} {h : Header} (hp : parseHeader b0 b1 b2 = some h) {body : List Byte}
    (hlen : body.length = h.bodyBytes) (armed : Bool) (c1 c0 : Byte) :
    receiveBytes (.hunt armed) (Config.sync0 :: Config.sync1 :: b0 :: b1 :: b2 :: (body ++ [c1, c0])) =
      (.hunt false, [concludeFrame h body c1 c0]) := by
  have hbody : receiveBytes (enterBody h) (body ++ [c1, c0]) = receiveBytes (.check h body []) [c1, c0] := by
    unfold enterBody
    by_cases hz : h.bodyBytes = 0
    · rw [if_pos hz, List.eq_nil_of_length_eq_zero (hlen.trans hz)]
      rfl
    · rw [if_neg hz]
      exact receiveBytes_body h body [] _ (fun hnil => hz (by rw [← hlen, hnil]; rfl)) (by simpa using hlen)
  rw [receiveBytes_sync, receiveBytes_header hp, hbody]
  rfl

/-- What the receiver makes of a station frame's bytes, whatever its CRC bytes and its body fields (R32 to R34). -/
theorem receiveBytes_stationFrame {f : StationFrame} (h : f.body.lengthAllowed = true) (armed : Bool) (hi lo : Byte) :
    receiveBytes (.hunt armed) (Config.sync0 :: Config.sync1 :: f.headerAndBody ++ [hi, lo]) = (.hunt false,
      [if crc f.headerAndBody = hi ++ lo then if f.good = true then .good f else .malformed else .crcError]) := by
  rw [StationFrame.headerAndBody_eq]
  refine (receiveBytes_frame (StationFrame.parseHeader_eq h) (body := f.body.bytes) rfl armed hi lo).trans ?_
  rw [← StationFrame.headerAndBody_eq]
  have hraw : f.header.raw ++ f.body.bytes = f.headerAndBody := rfl
  have hparse : parseBody f.header.kind f.body.bytes = if f.good = true then some f.body else none :=
    StationFrame.parseBody_eq h
  rw [concludeFrame, hraw, hparse]
  by_cases hg : f.good = true
  · rw [if_pos hg, if_pos hg]
    rfl
  · rw [if_neg hg, if_neg hg]

/-- The bytes of a frame that carry the CRC they ought to (R22, R33). -/
theorem receiveBytes_stationFrame_bytes {f : StationFrame} (h : f.body.lengthAllowed = true) (armed : Bool) :
    receiveBytes (.hunt armed) f.bytes = (.hunt false, [if f.good = true then .good f else .malformed]) := by
  refine (receiveBytes_stationFrame h armed _ _).trans ?_
  rw [if_pos (hiByte_append_loByte _).symm]

/-- Settles O53: the bytes of a frame carry the CRC they ought to, so a good one is read back. -/
theorem stationFramesAreReceived : Obligations.StationFramesAreReceived := by
  intro f armed hg
  rw [receiveBytes_stationFrame_bytes (StationFrame.lengthAllowed_of_good hg), if_pos hg]

/-! ## Damaged frames -/

theorem State.setPort_setPort (s : State) (p : PortId) (a b : Port) : (s.setPort p a).setPort p b = s.setPort p b := by
  unfold State.setPort
  simp

theorem State.setPort_self (s : State) (p : PortId) : s.setPort p (s.port p) = s := by
  unfold State.setPort State.port
  simp

/-- A body field out of range, with the CRC it ought to have (R34). -/
theorem concludeFrame_malformed {h : Header} {body : List Byte} {v : BitVec 16} (hv : crc (h.raw ++ body) = v)
    (hb : parseBody h.kind body = none) : concludeFrame h body (hiByte v) (loByte v) = .malformed := by
  rw [concludeFrame, hiByte_append_loByte, if_pos hv, hb]

/-- A damaged frame on the counters of its port (R32, R33). -/
def Port.countDamage (q : Port) : Reception → Port
  | .malformed => q.countMalformed
  | .crcError => q.countCrcError
  | .good _ => q

theorem State.reception_of_damaged (s : State) (p : PortId) {g : Reception} (h : ∀ f, g ≠ .good f) :
    s.reception p g = s.modPort p (·.countDamage g) := by
  cases g with
  | malformed => rfl
  | crcError => rfl
  | good f => exact absurd rfl (h f)

/-- A port whose receiver has come to a phase and made damaged frames of the bytes on the way. -/
def Port.heard (q : Port) (r : Receiver) (gs : List Reception) : Port := gs.foldl Port.countDamage { q with receiver := r }

theorem Port.countDamage_heard (q : Port) (g : Reception) (r : Receiver) (gs : List Reception) :
    (q.countDamage g).heard r gs = q.heard r (g :: gs) := by
  cases g <;> rfl

theorem Port.heard_heard (q : Port) (r x : Receiver) (gs more : List Reception) :
    (q.heard r gs).heard x more = q.heard x (gs ++ more) := by
  induction gs generalizing q with
  | nil => rfl
  | cons g gs ih => rw [← Port.countDamage_heard, ih, Port.countDamage_heard, List.cons_append]

theorem Port.heard_fields (q : Port) (r : Receiver) (gs : List Reception) :
    (q.heard r gs).receiver = r ∧ (q.heard r gs).listening = q.listening := by
  induction gs generalizing q with
  | nil => exact ⟨rfl, rfl⟩
  | cons g gs ih =>
    obtain ⟨hr, hl⟩ := ih (q.countDamage g)
    rw [← Port.countDamage_heard, hr, hl]
    cases g <;> exact ⟨rfl, rfl⟩

/-- A byte that ends no good frame (R30 to R33). -/
theorem State.lineByte_of_damaged {s : State} {p : PortId} (hl : (s.port p).listening = true) {b : Byte}
    (hg : ∀ f, (receiveByte (s.port p).receiver b).2 ≠ some (.good f)) :
    s.lineByte p b = s.setPort p ((s.port p).heard (receiveByte (s.port p).receiver b).1
      (receiveByte (s.port p).receiver b).2.toList) := by
  rw [State.lineByte]
  dsimp only
  rw [if_pos hl]
  cases hb : (receiveByte (s.port p).receiver b).2 with
  | none => rfl
  | some g =>
    dsimp only
    rw [State.reception_of_damaged _ _ fun f hf => hg f (by rw [hb, hf]), State.modPort, State.modPort, State.setPort_setPort,
      State.setPort_port_self]
    rfl

/-- Bytes in which a listening receiver finds no good frame change its phase and the damage counters alone (R30 to R33). -/
theorem State.lineBytes_of_damaged {p : PortId} (bs : List Byte) (s : State) (hl : (s.port p).listening = true)
    (hg : ∀ f, .good f ∉ (receiveBytes (s.port p).receiver bs).2) :
    s.lineBytes p bs = s.setPort p ((s.port p).heard (receiveBytes (s.port p).receiver bs).1
      (receiveBytes (s.port p).receiver bs).2) := by
  induction bs generalizing s with
  | nil => exact (s.setPort_self p).symm
  | cons b bs ih =>
    rw [receiveBytes_cons] at hg ⊢
    have hbyte := State.lineByte_of_damaged (b := b) hl fun f hf => hg f (by simp [hf])
    obtain ⟨hrec, hlist⟩ := (s.port p).heard_fields (receiveByte (s.port p).receiver b).1
      (receiveByte (s.port p).receiver b).2.toList
    have hrest := ih (s.lineByte p b) (by rw [hbyte, State.setPort_port_self, hlist, hl]) (by
      rw [hbyte, State.setPort_port_self, hrec]
      exact fun f hf => hg f (List.mem_append_right _ hf))
    show (s.lineByte p b).lineBytes p bs = _
    rw [hrest, hbyte, State.setPort_setPort, State.setPort_port_self, hrec, Port.heard_heard]

/-- One damaged frame, read whole by the receiver in HUNT, is counted and changes nothing else. -/
theorem State.lineBytes_of_one_damaged {s : State} {p : PortId} {armed : Bool} (hlink : (s.port p).link ≠ .off)
    (hcarrier : (s.port p).carrier = true) (hhunt : (s.port p).receiver = .hunt armed) {bs : List Byte} {g : Reception}
    (h : receiveBytes (.hunt armed) bs = (.hunt false, [g])) (hg : ∀ f, g ≠ .good f) :
    s.lineBytes p bs = s.setPort p (Port.countDamage { s.port p with receiver := .hunt false } g) := by
  have hl : (s.port p).listening = true := by simp [Port.listening, hlink, hcarrier]
  rw [State.lineBytes_of_damaged bs s hl (by simpa [hhunt, h] using fun f => (hg f).symm), hhunt, h]
  rfl

/-- Settles O54: each frame is read whole as one damaged frame. -/
theorem damagedFramesAreCounted : Obligations.DamagedFramesAreCounted := by
  intro s p armed hlink hcarrier hhunt
  dsimp only
  rw [← satSucc16_eq, ← satSucc16_eq]
  have hmalformed : ∀ bs, receiveBytes (.hunt armed) bs = (.hunt false, [.malformed]) →
      exec (.malformedFrame p bs) s = .next (s.setPort p { s.port p with
        receiver := .hunt false, malformedFrames := satSucc16 (s.port p).malformedFrames }) := fun bs h =>
    congrArg Host.Outcome.next (State.lineBytes_of_one_damaged hlink hcarrier hhunt h fun f => by simp)
  refine ⟨fun f hi lo hg hne => ?_, fun b0 b1 b2 h => hmalformed _ ?_, fun attention r cls rev win h => hmalformed _ ?_,
    fun r cause expected h => hmalformed _ ?_⟩
  · have hcrc : receiveBytes (.hunt armed) (Config.sync0 :: Config.sync1 :: f.headerAndBody ++ [hi, lo]) =
        (.hunt false, [.crcError]) := by
      rw [receiveBytes_stationFrame (StationFrame.lengthAllowed_of_good hg), if_neg fun he => hne he.symm]
    exact congrArg Host.Outcome.next (State.lineBytes_of_one_damaged hlink hcarrier hhunt hcrc fun f => by simp)
  · exact (receiveBytes_sync armed [b0, b1, b2]).trans (receiveBytes_bad_header (parseHeader_eq_none h))
  · have hbad : ¬ StationFrame.good ⟨attention, r, .ident cls rev win⟩ = true := by
      simp only [StationFrame.good, identWindowAllowed, Bool.and_eq_true, decide_eq_true_eq]
      omega
    rw [receiveBytes_stationFrame_bytes rfl, if_neg hbad]
  · have hp := StationFrame.parseHeader_eq (f := ⟨false, r, .reject .sequence 0⟩) rfl
    refine (receiveBytes_frame hp (body := [cause, expected]) rfl armed _ _).trans ?_
    exact congrArg (fun g => (Receiver.hunt false, [g])) (concludeFrame_malformed rfl (parseBody_reject_eq_none h))

end Sys2Proof.Machine
end

section
/-! PROOF. O8: every step keeps the laws of every port's link. -/

namespace Sys2Proof.Machine

/-! ## What keeps the laws of the link -/

/-- A port with an outstanding record is UP (Table 3-1, R59). -/
theorem Port.LinkSound.up_of_window {q : Port} (h : q.LinkSound) {w : Sent} {rest : List Sent} (hw : q.window = w :: rest) :
    q.link = .up := by
  by_contra hl
  obtain ⟨hempty, -⟩ := h.quiet hl
  cases hempty.symm.trans hw

theorem Port.LinkSound.phase_of_up {q : Port} (h : q.LinkSound) (hl : q.link = .up) : q.phase = .none := by
  by_contra hp
  cases hl.symm.trans (h.phase.2 hp)

/-- The parts of a port that the laws of a link that is UP speak of. -/
def Port.linkPart (q : Port) : PortConfig × LinkState × ProbePhase × Option Nat × Bool × BitVec 4 × BitVec 4 :=
  (q.config, q.link, q.phase, q.probeTimer, q.station.valid, q.station.advertised, q.effectiveWindow)

/-- While UP, the send window, the lanes and the queue state are free of the link's laws. -/
theorem Port.LinkSound.of_up {q q' : Port} (h : q.LinkSound) (hl : q.link = .up) (e : q'.linkPart = q.linkPart) :
    q'.LinkSound := by
  simp only [Port.linkPart, Prod.mk.injEq] at e
  obtain ⟨ec, el, ep, et, ev, ea, ew⟩ := e
  have hl' := el.trans hl
  refine ⟨?_, fun hne => absurd hl' hne, fun _ => ?_, ?_, ?_, fun hoff => by cases hl'.symm.trans hoff⟩
  · rw [ec]; exact h.config
  · rw [ev, ew, ec, ea]; exact h.identified hl
  · rw [el, ep]; exact h.phase
  · rw [et, ep, el, ec]; exact h.probeTimer

theorem Port.LinkSound.withResult {q : Port} (h : q.LinkSound) (r : CommandResult) : (q.withResult r).LinkSound := { h with }

/-! ## The link controller -/

/-- A loss from UP: the re-probe interval runs if auto re-probe is on, and nothing is outstanding (R59, R74). -/
theorem Port.lost_linkSound {q : Port} (hc : q.config.InRange) (hp : q.phase = .none) (cause : Cause) (now : Nat) :
    (q.lost cause now).LinkSound where
  config := hc
  quiet _ := ⟨rfl, rfl, rfl, rfl⟩
  identified hl := by cases hl
  phase := by
    show LinkState.lost = .probing ↔ q.phase ≠ .none
    simp [hp]
  probeTimer := by
    show (if q.config.autoReprobe then some (q.config.probeEnd now) else none).isSome ↔
      (q.phase = .waiting ∨ q.phase = .resting ∨ (LinkState.lost = .lost ∧ q.config.autoReprobe = true))
    cases q.config.autoReprobe <;> simp [hp]
  off hl := by cases hl

/-- A probe that falls due is DUE with the probe timer stopped, or is skipped and RESTING with it running (R68). -/
theorem Port.probeFallsDue_linkSound {q : Port} (hc : q.config.InRange) (hq : q.Quiet) (hl : q.link = .probing) (now : Nat) :
    (q.probeFallsDue now).LinkSound := by
  unfold Port.probeFallsDue
  split <;>
    exact ⟨hc, fun _ => ⟨hq.window, hq.run, hq.backoff, hq.timer⟩, fun hup => (by cases hl.symm.trans hup), by simp [hl],
      by simp [hl], fun hoff => by cases hl.symm.trans hoff⟩

theorem Port.enterProbing_linkSound {q : Port} (hc : q.config.InRange) (hq : q.Quiet) (now : Nat) :
    (q.enterProbing now).LinkSound :=
  Port.probeFallsDue_linkSound (q := { q with link := .probing, probeSeq := none, probeTimer := none }) hc
    ⟨hq.window, hq.run, hq.backoff, hq.timer⟩ rfl now

theorem Port.LinkSound.isQuiet {q : Port} (h : q.LinkSound) (hl : q.link ≠ .up) : q.Quiet := by
  obtain ⟨hw, hr, hb, ht⟩ := h.quiet hl
  exact ⟨hw, hr, hb, ht⟩

/-- An accepted IDENT makes the station record valid and sets the effective window (R72). -/
theorem Port.LinkSound.acceptIdent {q : Port} (h : q.LinkSound) (seq : Seq) (cls : BitVec 16) (revision window : Byte) :
    (q.acceptIdent seq cls revision window).LinkSound where
  config := h.config
  quiet hne := absurd rfl hne
  identified _ := ⟨rfl, rfl⟩
  phase := by simp [Port.acceptIdent]
  probeTimer := by simp [Port.acceptIdent]
  off hl := by cases hl

theorem Port.LinkSound.failProbe {q : Port} (h : q.LinkSound) (hl : q.link = .probing) (now : Nat) :
    (q.failProbe now).LinkSound :=
  { h with
    phase := by simp [Port.failProbe, hl]
    probeTimer := by simp [Port.failProbe]
    off := fun hoff => by cases hl.symm.trans hoff }

/-- A due PROBE that begins is SENDING, with the probe timer stopped as before (R69). -/
theorem Port.LinkSound.beginProbe {q : Port} (h : q.LinkSound) (hl : q.link = .probing) (hp : q.phase = .due) :
    q.beginProbe.LinkSound :=
  { h with
    phase := by simp [Port.beginProbe, hl]
    probeTimer := by simpa [Port.beginProbe, hl, hp] using h.probeTimer
    off := fun hoff => by cases hl.symm.trans hoff }

/-! ## The moves of the line and of time -/

theorem Port.LinkSound.arbitrate {q : Port} (h : q.LinkSound) : q.arbitrate.LinkSound := by
  obtain e | ⟨-, hl, -, w, -, e⟩ | ⟨-, hl, hp, e⟩ | ⟨-, hl, -, -, -, r, rest, -, -, e⟩ |
    ⟨-, hl, -, -, -, -, r, rest, -, -, e⟩ := q.arbitrate_cases <;> rw [e]
  · exact h
  · exact h.of_up hl rfl
  · exact h.beginProbe hl hp
  · exact h.of_up hl rfl
  · exact h.of_up hl rfl

theorem Port.LinkSound.dropPartial {q : Port} (h : q.LinkSound) : q.dropPartial.LinkSound := by
  unfold Port.dropPartial
  split
  · exact h
  · split
    · exact h
    · exact { h with }

theorem Port.LinkSound.setCarrier {q : Port} (h : q.LinkSound) (present : Bool) : (q.setCarrier present).LinkSound :=
  { h with
    off := fun hl => by
      obtain ⟨hpri, hnor, hrun, htx, hstation, hwindow, hcause, hseq, -⟩ := h.off hl
      exact ⟨hpri, hnor, hrun, htx, hstation, hwindow, hcause, hseq, rfl⟩ }

theorem Port.probeTimes_iff (q : Port) (l : LinkState) (x : ProbePhase) :
    q.probeTimes l x = true ↔ q.probeTimer.isSome = true ∧ q.link = l ∧ q.phase = x := by
  simp [Port.probeTimes, and_assoc]

theorem Port.AsideMove.linkSound {q q' : Port} (m : q.AsideMove q') (h : q.LinkSound) : q'.LinkSound := by
  cases m with
  | receive r hl => exact { h with off := fun hoff => absurd hoff (Port.listening_link hl) }
  | loseCarrier => exact h.dropPartial.setCarrier false
  | regainCarrier => exact h.setCarrier true
  | malformed => exact { h with }
  | crcError => exact { h with }
  | stale => exact { h with }
  | attention hl => exact { h with off := fun hoff => absurd hoff hl }
  | failProbe now ht =>
    obtain ⟨-, hl, -⟩ := (q.probeTimes_iff _ _).1 ht
    exact h.failProbe hl now
  | probeFallsDue now ht =>
    obtain ⟨-, hl, -⟩ := (q.probeTimes_iff _ _).1 ht
    exact Port.probeFallsDue_linkSound h.config (h.isQuiet (by simp [hl])) hl now
  | result r => exact h.withResult r
  | clearAttention hl => exact { h with off := fun hoff => absurd hoff hl }
  | clearOnRead r => cases r <;> exact { h with }
  | mirrorLost => exact { h with }

/-- The end of a frame starts a probe's response wait, or a timer of an UP link, or nothing (R27, R43, R69). -/
theorem Port.LinkSound.endFrame {q : Port} (h : q.LinkSound) {x : Transmission} (hx : q.transmitter = some x) (now : Nat) :
    (Port.reportEnd { q with transmitter := none } x.frame now).LinkSound := by
  have hne : q.link ≠ .off := by
    intro hl
    obtain ⟨-, -, -, htx, -⟩ := h.off hl
    cases htx.symm.trans hx
  have freed : Port.LinkSound { q with transmitter := none } := { h with off := fun hl => absurd hl hne }
  unfold Port.reportEnd
  split
  · split
    · rename_i hp
      obtain ⟨hl, -⟩ : q.link = .probing ∧ q.phase = .sending := hp
      exact
        { freed with
          phase := by simp [hl]
          probeTimer := by simp
          off := fun hl => absurd hl hne }
    · exact freed
  · split
    · rename_i hold
      obtain ⟨hold, -⟩ := Bool.and_eq_true_iff.1 hold
      obtain ⟨w, rest, hw, -⟩ := (Port.oldestIs_iff _ _).1 hold
      exact freed.of_up (h.up_of_window hw) rfl
    · exact freed

/-- The oldest leaves with its outcome: the link's part of the port stands. -/
theorem Port.complete_linkPart (q : Port) (r : Record) (l : Leaving) (done : Seq) (now : Nat) :
    ((q.dropOldest.counted r l).afterCompletion done now).linkPart = q.linkPart := by
  obtain ⟨a, b, e⟩ := q.dropOldest.counted_eq r l
  rw [e]
  unfold Port.afterCompletion
  dsimp only
  split <;> rfl

theorem Port.LineMove.linkSound {q q' : Port} (m : q.LineMove q') (h : q.LinkSound) : q'.LinkSound := by
  cases m with
  | aside m => exact m.linkSound h
  | arbitrate => exact h.arbitrate
  | hold hl => exact h.of_up hl rfl
  | lose cause now hl => exact Port.lost_linkSound h.config (h.phase_of_up hl) cause now
  | complete w rest l now hw => exact h.of_up (h.up_of_window hw) (q.complete_linkPart w.record l w.seq now)
  | exhaust w rest cause now hw =>
    obtain ⟨a, b, e⟩ := q.dropOldest.counted_eq w.record (.failed cause w.seq)
    rw [e]
    refine Port.lost_linkSound ?_ ?_ cause now
    · exact h.config
    · exact h.phase_of_up (h.up_of_window hw)
  | retry w rest hw => exact h.of_up (h.up_of_window hw) (by rw [Port.raiseRetry, hw]; rfl)
  | beginBackoff w rest now hw => exact h.of_up (h.up_of_window hw) (by rw [Port.beginBackoff, hw]; rfl)
  | endFrame x now hx => exact h.endFrame hx now
  | stopTimer =>
    exact { h with quiet := fun hl => ⟨(h.isQuiet hl).window, (h.isQuiet hl).run, (h.isQuiet hl).backoff, rfl⟩ }
  | endBackoff =>
    exact { h with quiet := fun hl =>
      ⟨(h.isQuiet hl).window, congrArg (List.map Sent.seq) (h.isQuiet hl).window, rfl, (h.isQuiet hl).timer⟩ }
  | reprobe now hl => exact Port.enterProbing_linkSound h.config (h.isQuiet (by simp [hl])) now
  | acceptIdent seq cls revision window => exact h.acceptIdent seq cls revision window

theorem Port.LineMoves.linkSound {q q' : Port} (m : q.LineMoves q') (h : q.LinkSound) : q'.LinkSound := by
  induction m with
  | refl => exact h
  | tail _ m ih => exact m.linkSound ih

/-! ## The moves of a host access -/

/-- An OFF port admits nothing (Table 1-7). -/
theorem Port.refusal_link {q : Port} {x : Source} (h : q.refusal x = none) : q.link ≠ .off := by
  intro hl
  have hs := ((q.refusal_eq_none x).1 h).1
  cases x <;> simp [Port.refusesState, Port.flowing, hl] at hs

theorem Port.LinkSound.join {q : Port} (h : q.LinkSound) (hne : q.link ≠ .off) (r : Record) : (q.join r).LinkSound := by
  unfold Port.join
  cases r.lane <;> exact { h with off := fun hl => absurd hl hne }

/-- A removal from the lanes leaves the empty lanes of an OFF port empty. -/
theorem Port.LinkSound.filterLanes {q : Port} (h : q.LinkSound) (f g : Record → Bool) :
    Port.LinkSound { q with priority := q.priority.filter f, normal := q.normal.filter g } :=
  { h with
    off := fun hl => by
      obtain ⟨hpri, hnor, hrest⟩ := h.off hl
      exact ⟨by simp [hpri], by simp [hnor], hrest⟩ }

/-- A configuration is written while OFF, where no probe timer runs (R98). -/
theorem Port.LinkSound.configure {q : Port} (h : q.LinkSound) (hl : q.link = .off) {c : PortConfig} (hc : c.InRange) :
    Port.LinkSound { q with config := c } :=
  { h with
    config := hc
    identified := fun hup => by cases hl.symm.trans hup
    probeTimer := by simpa [hl] using h.probeTimer }

theorem Port.HostMove.linkSound {q q' : Port} (m : q.HostMove q') (h : q.LinkSound) : q'.LinkSound := by
  cases m with
  | configure c v hl hv => exact h.configure hl (h.config.written hv)
  | enable now hl =>
    obtain ⟨hw, hr, hb, ht⟩ := h.isQuiet (by simp [hl])
    exact (Port.enterProbing_linkSound (q := { q with nextSeq := 0, receiver := .hunt false }) h.config
      ⟨hw, hr, hb, ht⟩ now).withResult .done
  | disable => exact { Port.resetWith_linkSound q.carrier h.config with }
  | resume hl => exact { h with off := fun hoff => absurd hoff hl }
  | flush hl => exact { h with off := fun hoff => absurd hoff hl }
  | join r hroom => exact h.join (Port.refusal_link hroom) r
  | joinPosted remote d hroom => exact { h.join (Port.refusal_link hroom) (postedRecord remote d) with }
  | withdraw n => exact h.filterLanes _ _

theorem Port.HostTurn.linkSound {q q' : Port} (m : q.HostTurn q') (h : q.LinkSound) : q'.LinkSound := by
  obtain m | ⟨x, m, rfl | rfl⟩ := m
  · exact m.linkSound h
  · exact m.linkSound h
  · exact (m.linkSound h).arbitrate

/-! ## Every turn -/

/-- A commit finds no record in the lane of an OFF port (R8, R83). -/
theorem Port.LinkSound.commitReserved {q : Port} (h : q.LinkSound) (data : List Byte) : (q.commitReserved data).LinkSound :=
  { h with
    off := fun hl => by
      obtain ⟨hpri, hnor, hrest⟩ := h.off hl
      exact ⟨hpri, by simp [Port.commitReserved, hnor], hrest⟩ }

theorem Port.LinkSound.releaseReserved {q : Port} (h : q.LinkSound) : q.releaseReserved.LinkSound :=
  { h with
    off := fun hl => by
      obtain ⟨hpri, hnor, hrest⟩ := h.off hl
      exact ⟨hpri, by simp [Port.releaseReserved, hnor], hrest⟩ }

theorem State.Turn.linkSound {s t : State} (m : State.Turn s t) (h : ∀ p, (s.port p).LinkSound) :
    ∀ p, (t.port p).LinkSound := by
  have hone : ∀ p, (∀ r, r ≠ p → t.port r = s.port r) → (t.port p).LinkSound → ∀ r, (t.port r).LinkSound := by
    intro p ho hp r
    by_cases hr : r = p
    · exact hr ▸ hp
    · rw [ho r hr]; exact h r
  cases m with
  | line _ _ hp => exact fun p => (hp p).linkSound (h p)
  | host p _ _ ho hp => exact hone p ho (hp.linkSound (h p))
  | pass a _ _ _ _ _ hp => exact fun p => (hp p).linkSound (h p)
  | reserve _ _ d m _ hroom _ _ _ ho hp =>
    exact hone m.port ho (by rw [hp]; exact (h m.port).join (Port.refusal_link hroom) _)
  | ended _ _ hp => exact fun p => by rw [hp p]; exact h p
  | commit p data _ _ ho hp => exact hone p ho (by rw [hp]; exact ((h p).commitReserved data).arbitrate)
  | release p _ _ ho hp => exact hone p ho (by rw [hp]; exact (h p).releaseReserved)
  | reset _ hp =>
    intro p
    obtain ⟨c, hc, e⟩ := hp p
    rw [e]
    obtain rfl | rfl := hc
    · exact Port.resetWith_linkSound _ (h p).config
    · exact Port.resetWith_linkSound _ PortConfig.reset_inRange

/-- Settles O8: a step is a turn, and each move of a port keeps the laws of its link. -/
theorem linkLawsKept : Obligations.LinkLawsKept := fun _ _ hs h => (step_turn hs.queues h).linkSound hs.links

end Sys2Proof.Machine
end

section
/-! PROOF. O3: a command that names a port changes no other port and no window entry. -/

namespace Sys2Proof.Machine

/-- `t` has the window entries of `s` and every port of `s` but `p`. -/
structure State.Spares (p : PortId) (s t : State) : Prop where
  others : ∀ r, r ≠ p → t.port r = s.port r
  windows : t.windows = s.windows

theorem State.Within.spares {p : PortId} {s t : State} (h : State.Within p s t) : State.Spares p s t :=
  ⟨h.others, State.shell_windows h.shell⟩

theorem State.spares_withAnswer (s : State) (p : PortId) (a : Answer) : State.Spares p s (s.withAnswer a) :=
  ⟨fun _ _ => rfl, rfl⟩

theorem State.Spares.withAnswer {p : PortId} {s t : State} (h : State.Spares p s t) (a : Answer) :
    State.Spares p s (t.withAnswer a) := ⟨h.others, h.windows⟩

/-- An access that is not decided leaves an answer alone, so a presentation spares what its access spares. -/
theorem State.spares_present (s : State) {p : PortId} (b : Bool) {act : State → State} (h : State.Spares p s (act s)) :
    State.Spares p s (s.present b act) := by
  obtain ⟨-, -, e⟩ | ⟨a, -, e⟩ := s.present_cases b act <;> rw [e]
  · exact h
  · exact s.spares_withAnswer p a

theorem State.spares_presentCommand (s : State) {p : PortId} {act : State → State} (h : State.Within p s (act s)) :
    State.Spares p s (s.presentCommand act) := s.spares_present true (h.spares.withAnswer .ack)

/-- A configuration that is written reaches its own port (R98). -/
theorem State.spares_configure (s : State) (p : PortId) (c : PortConfig) :
    State.Spares p s ((s.modPort p fun q => { q with config := c }).withAnswer .ack) :=
  (s.within_modPort p _).spares.withAnswer .ack

theorem State.spares_writeConfigA (s : State) (p : PortId) (v : Word) : State.Spares p s (s.writeConfigA p v) := by
  unfold State.writeConfigA
  split
  · exact s.spares_withAnswer p .berr
  · split
    · exact s.spares_configure p _
    · exact s.spares_withAnswer p .berr

theorem State.spares_writeConfigB (s : State) (p : PortId) (v : Word) : State.Spares p s (s.writeConfigB p v) := by
  unfold State.writeConfigB
  split
  · exact s.spares_withAnswer p .berr
  · split
    · exact s.spares_configure p _
    · exact s.spares_withAnswer p .berr

/-- The read of a port's counter clears it there alone (R37, R63, R80, R119). -/
theorem State.spares_counterRead (s : State) (p : PortId) (r : PortReg) :
    State.Spares p s (s.present true (fun s => s.readAccess (.port p r))) :=
  s.spares_present true ((s.within_modPort p _).spares.withAnswer _)

/-- Every command that names a port spares the others. -/
theorem exec_spares {c : Instr} {s t : State} {p : PortId} (hp : portNamed c = some p) (h : exec c s = .next t) :
    State.Spares p s t := by
  cases c <;> cases hp <;> cases h
  case configurationAWrite v => exact s.spares_present _ (s.spares_writeConfigA p v)
  case configurationBWrite v => exact s.spares_present _ (s.spares_writeConfigB p v)
  case enable => exact s.spares_presentCommand (s.within_enablePort p)
  case disable => exact s.spares_presentCommand (s.within_disablePort p)
  case resume => exact s.spares_presentCommand (s.within_resumePort p)
  case flush => exact s.spares_presentCommand (s.within_flushPort p)
  case restart => exact s.spares_presentCommand (s.within_restartPort p)
  case ackAttention => exact s.spares_presentCommand (s.within_ackAttention p)
  case portCommandUnknown v => exact s.spares_presentCommand (s.within_portCommand p _)
  case crcErrorCounterRead => exact s.spares_counterRead p .crcErrors
  case malformedFrameCounterRead => exact s.spares_counterRead p .malformedFrames
  case retransmissionCounterRead => exact s.spares_counterRead p .retransmissions
  case staleResponseCounterRead => exact s.spares_counterRead p .staleResponses
  case probeAttemptCounterRead => exact s.spares_counterRead p .probeAttempts
  case mirrorLostCounterRead => exact s.spares_counterRead p .mirrorLost
  case ackFrameReceived => exact (s.within_stationFrame p _).spares
  case dataFrameReceived => exact (s.within_stationFrame p _).spares
  case rejectFrameReceived => exact (s.within_stationFrame p _).spares
  case identFrameReceived => exact (s.within_stationFrame p _).spares
  case crcErrorFrame bs => exact (State.within_lineBytes p bs s).spares
  case malformedFrame bs => exact (State.within_lineBytes p bs s).spares
  case carrierLost => exact (s.within_loseCarrier p).spares
  case carrierRegained => exact (s.within_regainCarrier p).spares
  case transmissionEnd => exact (s.within_endTransmission p).spares
  case responseTimerExpiry => exact (s.within_expireResponseTimer p).spares
  case busyBackoffEnd => exact (s.within_endBackoff p).spares
  case probeResponseWaitExpiry => exact (s.within_expireResponseWait p).spares
  case probeIntervalExpiry => exact (s.within_expireProbeInterval p).spares
  case reprobeIntervalExpiry => exact (s.within_expireReprobeInterval p).spares

/-- Settles O3, by the command. -/
theorem otherPortsUntouched : Obligations.OtherPortsUntouched := fun _ _ _ _ hp h =>
  have spared := exec_spares hp h
  ⟨spared.others, spared.windows⟩

end Sys2Proof.Machine
end

section
/-! PROOF. What the responses of a station do, said once for a port whose fields are written out: Table 3-2 case by case, the
retry and the exhaustion of the oldest, and the frames that carry the responses. -/

namespace Sys2Proof.Machine

/-! ## The sequencer's procedures -/

theorem State.setPort_modPort (s : State) (p : PortId) (q : Port) (f : Port → Port) :
    (s.setPort p q).modPort p f = s.setPort p (f q) := by
  rw [State.modPort, State.setPort_port_self, State.setPort_setPort]

/-- A stale response raises the saturating counter (R48, R63). -/
theorem State.setPort_stale (s : State) (p : PortId) (q : Port) : (s.setPort p q).stale p = s.setPort p { q with
    staleResponses := if q.staleResponses = 65535#16 then 65535#16 else q.staleResponses + 1 } := by
  rw [State.stale, State.setPort_modPort, Port.countStale, satSucc16_eq]

/-- Exhaustion takes the oldest out, gives its producer the cause, and loses the link with it (R57). -/
theorem State.setPort_exhaust (s : State) (p : PortId) (q : Port) {w : Sent} {rest : List Sent} (hw : q.window = w :: rest)
    (cause : Cause) : (s.setPort p q).exhaust p w cause =
      ((s.setPort p { q with window := rest }).settle p w.record (.failed cause w.seq)).loseLink p cause := by
  rw [State.exhaust, State.setPort_modPort, Port.dropOldest, hw]
  rfl

/-- Below the retry limit the oldest's count rises and a run begins (R56). -/
theorem State.setPort_retryOldest_below (s : State) (p : PortId) (q : Port) {w : Sent} {rest : List Sent}
    (hw : q.window = w :: rest) (hlim : w.retry < q.config.retryLimit.toNat) :
    (s.setPort p q).retryOldest p = (s.setPort p { q with
      window := { w with retry := w.retry + 1 } :: rest
      resendRun := (w :: rest).map Sent.seq }).arbitrate p := by
  rw [State.retryOldest, State.setPort_port_self, hw]
  dsimp only
  rw [if_pos hlim, State.setPort_modPort, Port.raiseRetry, hw]
  rfl

/-- At the retry limit the oldest is exhausted with cause TIMEOUT (R56). -/
theorem State.setPort_retryOldest_limit (s : State) (p : PortId) (q : Port) {w : Sent} {rest : List Sent}
    (hw : q.window = w :: rest) (hlim : q.config.retryLimit.toNat ≤ w.retry) :
    (s.setPort p q).retryOldest p =
      ((s.setPort p { q with window := rest }).settle p w.record (.failed .timeout w.seq)).loseLink p .timeout := by
  rw [← State.setPort_exhaust s p q hw, State.retryOldest, State.setPort_port_self, hw]
  exact if_neg (Nat.not_lt.2 hlim)

/-- Below the busy limit the oldest's count rises and busy backoff begins (R54, R56). -/
theorem State.setPort_busyRefusal_below (s : State) (p : PortId) (q : Port) {w : Sent} {rest : List Sent}
    (hw : q.window = w :: rest) (hlim : w.busy < q.config.busyLimit.toNat) :
    (s.setPort p q).busyRefusal p = s.setPort p { q with
      window := { w with busy := w.busy + 1 } :: rest
      responseTimer := none
      resendRun := []
      backoff := some (s.now + 16 * q.config.backoffSteps.toNat) } := by
  rw [State.busyRefusal, State.setPort_port_self, hw]
  dsimp only
  rw [if_pos hlim, State.setPort_modPort, Port.beginBackoff, hw]
  rfl

/-- At the busy limit the oldest is exhausted with cause BUSY (R54). -/
theorem State.setPort_busyRefusal_limit (s : State) (p : PortId) (q : Port) {w : Sent} {rest : List Sent}
    (hw : q.window = w :: rest) (hlim : q.config.busyLimit.toNat ≤ w.busy) :
    (s.setPort p q).busyRefusal p =
      ((s.setPort p { q with window := rest }).settle p w.record (.failed .busy w.seq)).loseLink p .busy := by
  rw [← State.setPort_exhaust s p q hw, State.busyRefusal, State.setPort_port_self, hw]
  exact if_neg (Nat.not_lt.2 hlim)

/-! ## A response that names a record (Table 3-2) -/

theorem Port.outstanding_iff (q : Port) (r : Seq) : q.outstanding r = true ↔ r ∈ q.window.map Sent.seq := by
  simp [Port.outstanding]

/-- Outside UP every response is stale. -/
theorem State.setPort_respond_not_up (s : State) (p : PortId) (q : Port) (hl : q.link ≠ .up) (r : Seq)
    (act : Sent → State) : (s.setPort p q).respond p r act = (s.setPort p q).stale p := by
  rw [State.respond, State.setPort_port_self]
  exact if_pos (bne_iff_ne.2 hl)

/-- A response that names no outstanding record is stale (R48). -/
theorem State.setPort_respond_unknown (s : State) (p : PortId) (q : Port) {r : Seq} (hr : r ∉ q.window.map Sent.seq)
    (act : Sent → State) : (s.setPort p q).respond p r act = (s.setPort p q).stale p := by
  obtain e | ⟨-, -, -, hmem, -⟩ | ⟨-, w, rest, hw, rfl, -⟩ := (s.setPort p q).respond_cases p r act
  · exact e
  · rw [State.setPort_port_self] at hmem
    exact absurd hmem hr
  · rw [State.setPort_port_self] at hw
    exact absurd (by simp [hw]) hr

/-- A response that names the oldest acts on it. -/
theorem State.setPort_respond_oldest (s : State) (p : PortId) (q : Port) (hl : q.link = .up) {w : Sent} {rest : List Sent}
    (hw : q.window = w :: rest) (act : Sent → State) : (s.setPort p q).respond p w.seq act = act w := by
  simp [State.respond, hl, hw]

/-- A response that names a younger record during backoff is stale, as is one that names none (R48). -/
theorem State.setPort_respond_backoff (s : State) (p : PortId) (q : Port) {w : Sent} {rest : List Sent}
    (hw : q.window = w :: rest) {r : Seq} (hne : r ≠ w.seq) (hb : q.backoff ≠ none) (act : Sent → State) :
    (s.setPort p q).respond p r act = (s.setPort p q).stale p := by
  obtain e | ⟨-, hnone, -⟩ | ⟨-, x, others, hx, rfl, -⟩ := (s.setPort p q).respond_cases p r act
  · exact e
  · rw [State.setPort_port_self] at hnone
    exact absurd hnone hb
  · rw [State.setPort_port_self, hw] at hx
    cases hx
    exact absurd rfl hne

/-- A response that names a younger record outside backoff is out of order (R49). -/
theorem State.setPort_respond_younger (s : State) (p : PortId) (q : Port) (hl : q.link = .up) {w : Sent} {rest : List Sent}
    (hw : q.window = w :: rest) {r : Seq} (hr : r ∈ rest.map Sent.seq) (hne : r ≠ w.seq) (hb : q.backoff = none)
    (act : Sent → State) : (s.setPort p q).respond p r act = (s.setPort p q).outOfOrder p := by
  have ho : q.outstanding r = true := (q.outstanding_iff r).2 (by rw [hw]; exact List.mem_cons_of_mem _ hr)
  simp [State.respond, hl, hw, hne.symm, ho, hb]

/-- What Table 3-2 makes of every response that names record `r`, it makes of the frames that name it. -/
theorem State.responses_of_respond {s t : State} {p : PortId} {r : Seq} (h : ∀ act, s.respond p r act = t)
    (data : List Byte) (cause : RejectCause) (e : Seq) :
    s.ackResponse p r = t ∧ s.dataResponse p r data = t ∧ (cause ≠ .sequence → s.rejectResponse p r cause e = t) := by
  refine ⟨h _, h _, fun hc => ?_⟩
  cases cause with
  | sequence => exact absurd rfl hc
  | busy => exact h _
  | address => exact h _
  | denied => exact h _

/-! ## REJECT SEQUENCE (R55) -/

/-- Outside UP, or during backoff, REJECT SEQUENCE is stale. -/
theorem State.setPort_sequenceRefusal_stale (s : State) (p : PortId) (q : Port) (h : q.link ≠ .up ∨ q.backoff ≠ none)
    (e : Seq) : (s.setPort p q).sequenceRefusal p e = (s.setPort p q).stale p := by
  by_cases hl : q.link = .up
  · simp [State.sequenceRefusal, Option.isSome_iff_ne_none.2 (h.resolve_left fun hne => hne hl)]
  · simp [State.sequenceRefusal, hl]

/-- REJECT SEQUENCE retries the oldest if the expected sequence is outstanding, and is a protocol error if not. -/
theorem State.setPort_sequenceRefusal_up (s : State) (p : PortId) (q : Port) (hl : q.link = .up) (hb : q.backoff = none)
    (e : Seq) : (s.setPort p q).sequenceRefusal p e =
      if e ∈ q.window.map Sent.seq then (s.setPort p q).retryOldest p else (s.setPort p q).loseLink p .protocol := by
  simp only [← Port.outstanding_iff]
  simp [State.sequenceRefusal, hl, hb, State.protocolError]

/-! ## The frames that carry them -/

/-- A good frame without attention, of a line with carrier and a port that is not OFF, puts the receiver in HUNT and is
delivered by its body (R34). -/
theorem State.stationFrame_of_good {s : State} {p : PortId} (hl : (s.port p).link ≠ .off) (hc : (s.port p).carrier = true)
    {r : Seq} {body : StationBody} (hg : StationFrame.good ⟨false, r, body⟩ = true) :
    s.stationFrame p ⟨false, r, body⟩ =
      (s.setPort p (s.port p).toHunt).deliver p ⟨false, r, body⟩ := by
  have hlisten : (s.port p).listening = true := by simp [Port.listening, hl, hc]
  obtain ⟨hno, -⟩ | ⟨-, -, e⟩ | ⟨-, hbad, -⟩ := s.stationFrame_cases p ⟨false, r, body⟩
  · cases hlisten.symm.trans hno
  · exact e
  · cases hg.symm.trans hbad

section
variable {s : State} {p : PortId} (hl : (s.port p).link ≠ .off) (hc : (s.port p).carrier = true)
include hl hc

theorem exec_ackFrame (r : Seq) : exec (.ackFrameReceived p false r) s =
    .next ((s.setPort p (s.port p).toHunt).ackResponse p r) :=
  congrArg Host.Outcome.next (State.stationFrame_of_good hl hc rfl)

theorem exec_dataFrame {data : List Byte} (h1 : 1 ≤ data.length) (h16 : data.length ≤ 16) (r : Seq) :
    exec (.dataFrameReceived p false r data) s =
      .next ((s.setPort p (s.port p).toHunt).dataResponse p r data) :=
  congrArg Host.Outcome.next
    (State.stationFrame_of_good hl hc (by simp [StationFrame.good, dataLengthAllowed, h1, h16]))

theorem exec_rejectFrame (r : Seq) (cause : RejectCause) (e : Seq) : exec (.rejectFrameReceived p false r cause e) s =
    .next ((s.setPort p (s.port p).toHunt).rejectResponse p r cause e) :=
  congrArg Host.Outcome.next (State.stationFrame_of_good hl hc rfl)

theorem exec_identFrame {window : Byte} (h1 : 1 ≤ window.toNat) (h8 : window.toNat ≤ 8) (r : Seq) (cls : BitVec 16)
    (revision : Byte) : exec (.identFrameReceived p false r cls revision window) s =
      .next ((s.setPort p (s.port p).toHunt).identFrame p r cls revision window) :=
  congrArg Host.Outcome.next
    (State.stationFrame_of_good hl hc (by simp [StationFrame.good, identWindowAllowed, h1, h8]))

end

end Sys2Proof.Machine
end

section
/-! PROOF. O48, O49, O50 and O57: refusals, stale responses, out-of-order responses and protocol errors, and the timers of the
sequencer, each read off what the responses do to a port whose fields are written out. -/

namespace Sys2Proof.Machine

theorem LinkState.ne_off_of_up {l : LinkState} (h : l = .up) : l ≠ .off := by simp [h]

/-! ## Stale responses -/

theorem State.setPort_identFrame_stale (s : State) (p : PortId) (q : Port) {r : Seq}
    (h : ¬ (q.link = .probing ∧ q.probeSeq = some r)) (cls : BitVec 16) (revision window : Byte) :
    (s.setPort p q).identFrame p r cls revision window = (s.setPort p q).stale p := by
  rw [State.identFrame, State.setPort_port_self]
  exact if_neg h

/-- REJECT BUSY during backoff is stale, for the oldest and for any other (R48). -/
theorem State.setPort_rejectBusy_backoff (s : State) (p : PortId) (q : Port) (hl : q.link = .up) {w : Sent}
    {rest : List Sent} (hw : q.window = w :: rest) (hb : q.backoff ≠ none) (r e : Seq) :
    (s.setPort p q).rejectResponse p r .busy e = (s.setPort p q).stale p := by
  by_cases hr : r = w.seq
  · rw [State.rejectResponse, hr, State.setPort_respond_oldest s p q hl hw, State.setPort_port_self]
    exact if_pos (Option.isSome_iff_ne_none.2 hb)
  · exact State.setPort_respond_backoff s p q hw hr hb _

/-- A stale frame puts the receiver in HUNT and is counted; nothing else changes (R34, R48). -/
theorem State.toHunt_stale (s : State) (p : PortId) : (s.setPort p (s.port p).toHunt).stale p = s.setPort p { s.port p with
    receiver := .hunt false
    staleResponses := if (s.port p).staleResponses = 65535#16 then 65535#16 else (s.port p).staleResponses + 1 } :=
  State.setPort_stale s p (s.port p).toHunt

/-- A REJECT SEQUENCE is stale by its own rule, and every other response by that of the record it names. -/
theorem State.setPort_responses_stale (s : State) (p : PortId) (q : Port) {r : Seq}
    (h : ∀ act, (s.setPort p q).respond p r act = (s.setPort p q).stale p) (hseq : q.link ≠ .up ∨ q.backoff ≠ none)
    (data : List Byte) (cause : RejectCause) (e : Seq) :
    (s.setPort p q).ackResponse p r = (s.setPort p q).stale p ∧
      (s.setPort p q).dataResponse p r data = (s.setPort p q).stale p ∧
      (s.setPort p q).rejectResponse p r cause e = (s.setPort p q).stale p := by
  obtain ⟨hack, hdata, hreject⟩ := State.responses_of_respond h data cause e
  refine ⟨hack, hdata, ?_⟩
  by_cases hc : cause = .sequence
  · rw [hc]
    exact State.setPort_sequenceRefusal_stale s p q hseq e
  · exact hreject hc

/-- Settles O49, by the rows of Table 3-2 that are stale. -/
theorem staleResponsesAreCounted : Obligations.StaleResponsesAreCounted := by
  intro s p r e data cause cls rev win hoff hc h1 h16 hw1 hw8
  dsimp only
  rw [exec_ackFrame hoff hc, exec_dataFrame hoff hc h1 h16, exec_identFrame hoff hc hw1 hw8]
  simp only [exec_rejectFrame hoff hc, Host.Outcome.next.injEq]
  rw [← State.toHunt_stale]
  refine ⟨fun (hl : (s.port p).toHunt.link ≠ .up) => ?_, fun (hr : r ∉ (s.port p).toHunt.window.map Sent.seq) _ => ?_,
    fun (hl : (s.port p).toHunt.link = .up) (hb : (s.port p).toHunt.backoff ≠ none) => ⟨?_,
      fun w rest (hw : (s.port p).toHunt.window = w :: rest) => ⟨?_, fun hne => ?_⟩⟩,
    fun (hi : ¬ ((s.port p).toHunt.link = .probing ∧ (s.port p).toHunt.probeSeq = some r)) => ?_⟩
  · exact State.setPort_responses_stale s p _ (State.setPort_respond_not_up s p _ hl r) (.inl hl) data cause e
  · exact State.responses_of_respond (State.setPort_respond_unknown s p _ hr) data cause e
  · exact State.setPort_sequenceRefusal_stale s p _ (.inr hb) e
  · exact State.setPort_rejectBusy_backoff s p _ hl hw hb r e
  · exact State.setPort_responses_stale s p _ (State.setPort_respond_backoff s p _ hw hne hb) (.inr hb) data cause e
  · exact State.setPort_identFrame_stale s p _ hi cls rev win

/-! ## Out-of-order responses and protocol errors -/

/-- An out-of-order response is counted, and with no run active the oldest is retried (R49). -/
theorem State.setPort_outOfOrder (s : State) (p : PortId) (q : Port) : (s.setPort p q).outOfOrder p =
    if q.resendRun = [] then (s.setPort p q.countStale).retryOldest p else s.setPort p q.countStale := by
  rw [State.outOfOrder, State.setPort_port_self, State.stale, State.setPort_modPort]
  simp only [List.isEmpty_iff]

/-- An ACK for an oldest READ is a protocol error (R52). -/
theorem State.setPort_ackResponse_read (s : State) (p : PortId) (q : Port) (hl : q.link = .up) {w : Sent} {rest : List Sent}
    (hw : q.window = w :: rest) (ho : w.record.operation = .read) :
    (s.setPort p q).ackResponse p w.seq = (s.setPort p q).loseLink p .protocol := by
  rw [State.ackResponse, State.setPort_respond_oldest s p q hl hw, ho]
  rfl

/-- A DATA frame for an oldest WRITE, or of another length than the oldest READ, is a protocol error (R52). -/
theorem State.setPort_dataResponse_wrong (s : State) (p : PortId) (q : Port) (hl : q.link = .up) {w : Sent}
    {rest : List Sent} (hw : q.window = w :: rest) {data : List Byte}
    (h : w.record.operation = .write ∨ data.length ≠ w.record.length) :
    (s.setPort p q).dataResponse p w.seq data = (s.setPort p q).loseLink p .protocol := by
  rw [State.dataResponse, State.setPort_respond_oldest s p q hl hw]
  cases ho : w.record.operation with
  | write => rfl
  | read => exact if_neg (h.resolve_left (by simp [ho]))

/-- Settles O50: a younger record's response is out of order, and the oldest's of the wrong kind a protocol error. -/
theorem outOfOrderAndProtocolErrors : Obligations.OutOfOrderAndProtocolErrors := by
  intro s p w rest r e data cause t hl hc hw h1 h16
  have hoff := LinkState.ne_off_of_up hl
  replace hl : (s.port p).toHunt.link = .up := hl
  replace hw : (s.port p).toHunt.window = w :: rest := hw
  dsimp only
  refine ⟨fun (hb : (s.port p).toHunt.backoff = none) hr hne hcause ht => ?_, fun ho => ?_, fun ho => ?_⟩
  · have hrespond := State.setPort_respond_younger s p _ hl hw hr hne hb
    obtain ⟨hack, hdata, hreject⟩ := State.responses_of_respond hrespond data cause e
    have out : t = .next ((s.setPort p (s.port p).toHunt).outOfOrder p) := by
      obtain rfl | rfl | rfl := ht
      · rw [exec_ackFrame hoff hc, hack]
      · rw [exec_dataFrame hoff hc h1 h16, hdata]
      · rw [exec_rejectFrame hoff hc, hreject hcause]
    rw [out, State.setPort_outOfOrder, ← satSucc16_eq]
    refine ⟨fun (hrun : (s.port p).toHunt.resendRun ≠ []) => ?_, fun (hrun : (s.port p).toHunt.resendRun = []) hlim => ?_,
      fun (hrun : (s.port p).toHunt.resendRun = []) hlim => ?_⟩
    · rw [if_neg hrun]
      rfl
    · rw [if_pos hrun, State.setPort_retryOldest_below s p (s.port p).toHunt.countStale hw hlim]
      rfl
    · rw [if_pos hrun, State.setPort_retryOldest_limit s p (s.port p).toHunt.countStale hw hlim]
      rfl
  · rw [exec_ackFrame hoff hc, State.setPort_ackResponse_read s p _ hl hw ho]
    rfl
  · rw [exec_dataFrame hoff hc h1 h16, State.setPort_dataResponse_wrong s p _ hl hw ho]
    rfl

/-! ## REJECT BUSY and REJECT SEQUENCE -/

/-- REJECT BUSY for the oldest outside backoff is a busy refusal (R54). -/
theorem State.setPort_rejectBusy (s : State) (p : PortId) (q : Port) (hl : q.link = .up) {w : Sent} {rest : List Sent}
    (hw : q.window = w :: rest) (hb : q.backoff = none) (e : Seq) :
    (s.setPort p q).rejectResponse p w.seq .busy e = (s.setPort p q).busyRefusal p := by
  rw [State.rejectResponse, State.setPort_respond_oldest s p q hl hw, State.setPort_port_self, hb]
  rfl

/-- Settles O48, below each limit and at it. -/
theorem busyAndSequenceRefusals : Obligations.BusyAndSequenceRefusals := by
  intro s p r e hl hc hb
  dsimp only
  simp only [exec_rejectFrame (LinkState.ne_off_of_up hl) hc]
  replace hl : (s.port p).toHunt.link = .up := hl
  replace hb : (s.port p).toHunt.backoff = none := hb
  have hseq := State.setPort_sequenceRefusal_up s p _ hl hb e
  refine ⟨fun w rest (hw : (s.port p).toHunt.window = w :: rest) => ⟨fun hlim => ?_, fun hlim => ?_,
      fun (he : e ∈ (s.port p).toHunt.window.map Sent.seq) hlim => ?_,
      fun (he : e ∈ (s.port p).toHunt.window.map Sent.seq) hlim => ?_⟩,
    fun (he : e ∉ (s.port p).toHunt.window.map Sent.seq) => ?_⟩
  · rw [State.setPort_rejectBusy s p _ hl hw hb, State.setPort_busyRefusal_below s p _ hw hlim]
    rfl
  · rw [State.setPort_rejectBusy s p _ hl hw hb, State.setPort_busyRefusal_limit s p _ hw hlim]
    rfl
  · rw [State.rejectResponse, hseq, if_pos he, State.setPort_retryOldest_below s p _ hw hlim]
    rfl
  · rw [State.rejectResponse, hseq, if_pos he, State.setPort_retryOldest_limit s p _ hw hlim]
    rfl
  · rw [State.rejectResponse, hseq, if_neg he]
    rfl

/-! ## The timers of the sequencer -/

/-- A response timer that runs stops at its expiry, and the oldest is retried (R44). -/
theorem State.expireResponseTimer_of_running {s : State} {p : PortId} (h : (s.port p).responseTimer ≠ none) :
    s.expireResponseTimer p = (s.setPort p { s.port p with responseTimer := none }).retryOldest p := by
  obtain ⟨x, hx⟩ := Option.ne_none_iff_exists'.1 h
  rw [State.expireResponseTimer, hx]
  rfl

/-- The end of an active backoff begins a run from the oldest (R58). -/
theorem State.endBackoff_of_active {s : State} {p : PortId} (h : (s.port p).backoff ≠ none) :
    s.endBackoff p = (s.setPort p { s.port p with
      backoff := none, resendRun := (s.port p).window.map Sent.seq }).arbitrate p := by
  obtain ⟨x, hx⟩ := Option.ne_none_iff_exists'.1 h
  rw [State.endBackoff, hx]
  rfl

/-- Settles O57, by the timer and the retry limit. -/
theorem sequencerTimersExpire : Obligations.SequencerTimersExpire := by
  intro s p
  have htimer : exec (.responseTimerExpiry p) s = .next (s.expireResponseTimer p) := rfl
  have hback : exec (.busyBackoffEnd p) s = .next (s.endBackoff p) := rfl
  rw [htimer, hback]
  dsimp only
  refine ⟨fun w rest ht hw => ?_, fun ht => ?_, fun hb => ?_, fun hb => ?_⟩
  · rw [State.expireResponseTimer_of_running ht]
    refine ⟨fun hlim => ?_, fun hlim => ?_⟩
    · rw [State.setPort_retryOldest_below s p { s.port p with responseTimer := none } hw hlim]
    · rw [State.setPort_retryOldest_limit s p { s.port p with responseTimer := none } hw hlim]
  · rw [State.expireResponseTimer, ht]
  · rw [State.endBackoff_of_active hb]
  · rw [State.endBackoff, hb]

end Sys2Proof.Machine
end

section
/-! PROOF. O47 and O51: the answer that completes the oldest record, and the IDENT that brings the link UP. -/

namespace Sys2Proof.Machine

/-! ## The completion of the oldest -/

/-- The parts of a port that a completion reads once the oldest has left and its producer has its outcome. -/
def Port.completionPart (q : Port) : List Sent × List Seq × Option Nat × PortConfig :=
  (q.window, q.resendRun, q.backoff, q.config)

theorem Port.counted_completionPart (q : Port) (r : Record) (l : Leaving) :
    (q.counted r l).completionPart = q.completionPart := by
  obtain ⟨a, b, e⟩ := q.counted_eq r l
  rw [e]
  rfl

/-- The port after the outcome of its own record, and after the hold of a refused posted write (R53, R62, R84). -/
theorem State.settled_completionPart (s : State) (p : PortId) (r : Record) (l : Leaving) :
    ((s.settle p r l).port p).completionPart = (s.port p).completionPart ∧
      (((s.settle p r l).hold p).port p).completionPart = (s.port p).completionPart := by
  have h : ((s.settle p r l).port p).completionPart = (s.port p).completionPart := by
    rw [State.settle_port_self, Port.counted_completionPart]
  refine ⟨h, ?_⟩
  rw [(State.hold_spec _ p).1]
  exact h

/-- The sequencer's part of a completion: the response timer follows the new oldest, an active backoff is cancelled with a run
of what remains (R58, R61). -/
theorem Port.afterCompletion_eq (q : Port) (done : Seq) (now : Nat) : q.afterCompletion done now = { q with
    responseTimer := if q.window = [] then none else some (now + 4 * q.config.timeoutSteps.toNat)
    resendRun := if q.backoff.isSome then q.window.map Sent.seq else q.resendRun.filter (· != done)
    backoff := none } := by
  cases hb : q.backoff <;> simp [Port.afterCompletion, Port.beginRun, PortConfig.timeoutEnd, Config.responseTimeoutStep, hb]

/-- A port as the end of a completion leaves it, where the window, the run, the backoff and the configuration were those of
`q` when the oldest had left (R61). -/
def State.finishCompletion (s : State) (p : PortId) (q : Port) (done : Seq) (now : Nat) : State :=
  (s.setPort p { s.port p with
    responseTimer := if q.window = [] then none else some (now + 4 * q.config.timeoutSteps.toNat)
    resendRun := if q.backoff.isSome then q.window.map Sent.seq else q.resendRun.filter (· != done)
    backoff := none }).arbitrate p

theorem State.afterCompletion_arbitrate {s : State} {p : PortId} {q : Port}
    (h : (s.port p).completionPart = q.completionPart) (done : Seq) {now : Nat} (hnow : s.now = now) :
    (s.modPort p (·.afterCompletion done s.now)).arbitrate p = s.finishCompletion p q done now := by
  simp only [Port.completionPart, Prod.mk.injEq] at h
  obtain ⟨hw, hr, hb, hc⟩ := h
  rw [State.finishCompletion, ← hw, ← hr, ← hb, ← hc, ← hnow, ← Port.afterCompletion_eq]
  rfl

/-- A completion of the oldest, step by step (R61): it leaves, its producer has its outcome, a refused posted write makes the
queue HELD, the sequencer follows, and the arbiter chooses. -/
theorem State.setPort_complete (s : State) (p : PortId) (q : Port) {w : Sent} {rest : List Sent} (hw : q.window = w :: rest)
    (l : Leaving) : (s.setPort p q).complete p w l =
      let t := (s.setPort p { q with window := rest }).settle p w.record l
      (if l.holds w.record then t.hold p else t).finishCompletion p { q with window := rest } w.seq s.now := by
  have hdrop : (s.setPort p q).modPort p Port.dropOldest = s.setPort p { q with window := rest } := by
    rw [State.setPort_modPort, Port.dropOldest, hw]
    rfl
  obtain ⟨hsettled, hheld⟩ := (s.setPort p { q with window := rest }).settled_completionPart p w.record l
  rw [State.setPort_port_self] at hsettled hheld
  have hnow := State.settle_now (s.setPort p { q with window := rest }) p w.record l
  rw [State.complete, hdrop]
  dsimp only
  split
  · exact State.afterCompletion_arbitrate hheld w.seq ((State.shell_now (State.within_hold _ p).shell).trans hnow)
  · exact State.afterCompletion_arbitrate hsettled w.seq hnow

/-- An ACK for the oldest WRITE completes it (R51). -/
theorem State.setPort_ackResponse_write (s : State) (p : PortId) (q : Port) (hl : q.link = .up) {w : Sent} {rest : List Sent}
    (hw : q.window = w :: rest) (ho : w.record.operation = .write) :
    (s.setPort p q).ackResponse p w.seq = (s.setPort p q).complete p w (.ok []) := by
  rw [State.ackResponse, State.setPort_respond_oldest s p q hl hw, ho]

/-- A DATA frame of its length completes the oldest READ (R51). -/
theorem State.setPort_dataResponse_read (s : State) (p : PortId) (q : Port) (hl : q.link = .up) {w : Sent} {rest : List Sent}
    (hw : q.window = w :: rest) (ho : w.record.operation = .read) {data : List Byte}
    (hd : data.length = w.record.length) :
    (s.setPort p q).dataResponse p w.seq data = (s.setPort p q).complete p w (.ok data) := by
  rw [State.dataResponse, State.setPort_respond_oldest s p q hl hw, ho]
  exact if_pos hd

/-- A REJECT ADDRESS or DENIED for the oldest completes it with that refusal (R53). -/
theorem State.setPort_rejectResponse_refused (s : State) (p : PortId) (q : Port) (hl : q.link = .up) {w : Sent}
    {rest : List Sent} (hw : q.window = w :: rest) (e : Seq) :
    (s.setPort p q).rejectResponse p w.seq .address e = (s.setPort p q).complete p w (.refused .address w.seq) ∧
      (s.setPort p q).rejectResponse p w.seq .denied e = (s.setPort p q).complete p w (.refused .denied w.seq) :=
  ⟨State.setPort_respond_oldest s p q hl hw _, State.setPort_respond_oldest s p q hl hw _⟩

/-- Settles O47, by the kind of answer: each is the completion of the oldest with its outcome. -/
theorem answerCompletesTheOldest : Obligations.AnswerCompletesTheOldest := by
  intro s p w rest hl hc hw
  have hoff := LinkState.ne_off_of_up hl
  have complete := State.setPort_complete s p (s.port p).toHunt hw
  dsimp only
  refine ⟨fun ho => ?_, fun data ho hd h1 h16 => ?_, fun e => ?_⟩
  · rw [exec_ackFrame hoff hc, State.setPort_ackResponse_write s p (s.port p).toHunt hl hw ho, complete]
    rfl
  · rw [exec_dataFrame hoff hc h1 h16, State.setPort_dataResponse_read s p (s.port p).toHunt hl hw ho hd, complete]
    rfl
  · obtain ⟨haddress, hdenied⟩ := State.setPort_rejectResponse_refused s p (s.port p).toHunt hl hw e
    simp only [exec_rejectFrame hoff hc, haddress, hdenied, complete, Leaving.holds, beq_iff_eq]
    exact ⟨rfl, rfl⟩

/-! ## An accepted IDENT -/

theorem Station.changedBy_iff (t : Station) (cls : BitVec 16) (revision : Byte) :
    t.changedBy cls revision = true ↔ t.valid = true ∧ (cls ≠ t.cls ∨ revision ≠ t.revision) := by
  simp [Station.changedBy, ne_comm]

/-- The effective window is the smaller of the two (R42). -/
theorem PortConfig.effective_eq (c : PortConfig) {window : Byte} (h : window.toNat ≤ 8) :
    c.effective (window.setWidth 4) = BitVec.ofNat 4 (min c.windowLimit.toNat window.toNat) := by
  have hw : (window.setWidth 4).toNat = window.toNat := by
    rw [BitVec.toNat_setWidth]
    omega
  unfold PortConfig.effective
  rw [hw]
  apply BitVec.eq_of_toNat_eq
  split <;> simp <;> omega

/-- The port an accepted IDENT makes of one in HUNT (R42, R72). -/
theorem Port.acceptIdent_eq (q : Port) (r : Seq) (cls : BitVec 16) (revision : Byte) {window : Byte}
    (h : window.toNat ≤ 8) : q.acceptIdent r cls revision window = { q with
      station := ⟨true, cls, revision, BitVec.ofNat 4 window.toNat,
        if q.station.valid = true ∧ (cls ≠ q.station.cls ∨ revision ≠ q.station.revision) then false
        else q.station.attention⟩
      effectiveWindow := BitVec.ofNat 4 (min q.config.windowLimit.toNat window.toNat)
      nextSeq := r + 1
      probeTimer := none
      phase := .none
      probeSeq := none
      link := .up } := by
  simp only [Port.acceptIdent, PortConfig.effective_eq _ h, Station.changedBy_iff]
  rfl

/-- An IDENT that matches the probe sequence, step by step (R72): STATION_CHANGED if the station changed, the acceptance,
LINK_UP, and the arbiter's choice. -/
theorem State.setPort_identFrame_accepted (s : State) (p : PortId) (q : Port) {r : Seq} (hl : q.link = .probing)
    (hp : q.probeSeq = some r) (cls : BitVec 16) (revision window : Byte) :
    (s.setPort p q).identFrame p r cls revision window =
      ((((if q.station.changedBy cls revision then s.offer ⟨.stationChanged, p, .none, 0, .cls cls⟩ else s).setPort p
        (q.acceptIdent r cls revision window)).offer ⟨.linkUp, p, .none, 0, .identity cls revision⟩).arbitrate p) := by
  have hoffer : ∀ o, (s.setPort p q).offer o = (s.offer o).setPort p q := fun _ => rfl
  rw [State.identFrame, State.setPort_port_self]
  dsimp only
  rw [if_pos ⟨hl, hp⟩]
  split
  · rw [hoffer, State.setPort_modPort]
  · rw [State.setPort_modPort]

/-- Settles O51: the frame is the acceptance of its IDENT. -/
theorem identBringsTheLinkUp : Obligations.IdentBringsTheLinkUp := by
  intro s p r cls rev win hl hp hc h1 h8
  have hoff : (s.port p).link ≠ .off := by simp [hl]
  dsimp only
  rw [exec_identFrame hoff hc h1 h8, State.setPort_identFrame_accepted s p (s.port p).toHunt hl hp,
    Port.acceptIdent_eq _ r cls rev h8]
  simp only [Station.changedBy_iff]
  rfl

end Sys2Proof.Machine
end

section
/-! PROOF. O32, O52 and O58: ENABLE, RESTART and the expiries of the probe timer, and the attention flag of a good frame. -/

namespace Sys2Proof.Machine

/-! ## A probe that falls due -/

/-- A due probe begins on a free line (R69). -/
theorem Port.arbitrate_of_due {q : Port} (ht : q.transmitter = none) (hl : q.link = .probing) (hp : q.phase = .due) :
    q.arbitrate = q.beginProbe := by
  rw [Port.arbitrate_of_free ht, Port.choose, hl]
  exact if_pos hp

/-- A PROBING port with no probe due sends nothing (R25). -/
theorem Port.arbitrate_of_not_due {q : Port} (hl : q.link = .probing) (hp : q.phase ≠ .due) : q.arbitrate = q := by
  by_cases ht : q.transmitter = none
  · rw [Port.arbitrate_of_free ht, Port.choose, hl]
    exact if_neg hp
  · exact Port.arbitrate_of_busy ht

/-- With carrier present the probe of a port that enters PROBING is due (R68). -/
theorem Port.enterProbing_of_present {q : Port} (h : q.carrier = true) (now : Nat) : q.enterProbing now = { q with
    link := .probing, probeSeq := none, probeTimer := none, phase := .due } :=
  if_pos h

/-- With carrier absent it is skipped, and the port rests for one probe interval (R68). -/
theorem Port.enterProbing_of_absent {q : Port} (h : q.carrier = false) (now : Nat) : q.enterProbing now = { q with
    link := .probing, probeSeq := none, phase := .resting
    probeTimer := some (now + 1000 * q.config.probeInterval.toNat) } :=
  if_neg (by simp [h])

/-! ## ENABLE -/

theorem exec_enable {s : State} (hr : s.Ready) (p : PortId) :
    exec (.enable p) s = .next ((s.enablePort p).withAnswer .ack) :=
  congrArg Host.Outcome.next (State.presentCommand_of_ready hr _)

/-- The port that ENABLE makes of an OFF one, before the arbiter chooses (R67, R88). -/
def Port.enabled (q : Port) (now : Nat) : Port :=
  (Port.enterProbing { q with nextSeq := 0, receiver := .hunt false } now).withResult .done

theorem Port.enabled_of_present {q : Port} (h : q.carrier = true) (now : Nat) : q.enabled now = { q with
    nextSeq := 0, receiver := .hunt false, link := .probing, probeSeq := none, probeTimer := none, phase := .due
    commandResult := .done } :=
  congrArg (·.withResult .done) (Port.enterProbing_of_present (q := { q with nextSeq := 0, receiver := .hunt false }) h now)

theorem Port.enabled_of_absent {q : Port} (h : q.carrier = false) (now : Nat) : q.enabled now = { q with
    nextSeq := 0, receiver := .hunt false, link := .probing, probeSeq := none, phase := .resting
    probeTimer := some (now + 1000 * q.config.probeInterval.toNat), commandResult := .done } :=
  congrArg (·.withResult .done) (Port.enterProbing_of_absent (q := { q with nextSeq := 0, receiver := .hunt false }) h now)

/-- The acceptance of ENABLE and the arbiter's choice change the port alone (R67). -/
theorem State.enablePort_of_off {s : State} {p : PortId} (h : (s.port p).link = .off) :
    s.enablePort p = s.setPort p ((s.port p).enabled s.now).arbitrate := by
  rw [State.enablePort, if_pos h]
  simp only [State.portResult, State.arbitrate, State.modPort, State.setPort_port_self, State.setPort_setPort, Port.enabled]

/-- Settles O32: with carrier the probe is due and the arbiter begins it; without, the port rests and the arbiter has nothing. -/
theorem enableStartsProbing : Obligations.EnableStartsProbing := by
  intro s p hr hoff
  dsimp only
  rw [exec_enable hr, State.enablePort_of_off hoff]
  refine ⟨fun hc ht => ?_, fun hc => ?_⟩
  · have hdue := Port.enabled_of_present hc s.now
    rw [Port.arbitrate_of_due (by rw [hdue, ht]) (by rw [hdue]) (by rw [hdue]), hdue]
    rfl
  · have hresting := Port.enabled_of_absent hc s.now
    rw [Port.arbitrate_of_not_due (by rw [hresting]) (by simp [hresting]), hresting]

/-! ## RESTART and the probe timer -/

theorem exec_restart {s : State} (hr : s.Ready) (p : PortId) :
    exec (.restart p) s = .next ((s.restartPort p).withAnswer .ack) :=
  congrArg Host.Outcome.next (State.presentCommand_of_ready hr _)

/-- RESTART of a LOST port enters PROBING, and the arbiter chooses (R76, R92). -/
theorem State.restartPort_of_lost {s : State} {p : PortId} (h : (s.port p).link = .lost) :
    s.restartPort p = (s.setPort p (((s.port p).enterProbing s.now).withResult .done)).arbitrate p :=
  if_pos h

section
variable {s : State} {p : PortId}

/-- The end of a response wait fails the attempt (R70). -/
theorem State.expireResponseWait_of_waiting (ht : (s.port p).probeTimer ≠ none) (hl : (s.port p).link = .probing)
    (hp : (s.port p).phase = .waiting) : s.expireResponseWait p = s.setPort p ((s.port p).failProbe s.now) :=
  if_pos ((Port.probeTimes_iff _ _ _).2 ⟨Option.isSome_iff_ne_none.2 ht, hl, hp⟩)

/-- The end of a probe interval makes the next probe fall due, and the arbiter chooses (R68, R70). -/
theorem State.expireProbeInterval_of_resting (ht : (s.port p).probeTimer ≠ none) (hl : (s.port p).link = .probing)
    (hp : (s.port p).phase = .resting) :
    s.expireProbeInterval p = (s.setPort p ((s.port p).probeFallsDue s.now)).arbitrate p :=
  if_pos ((Port.probeTimes_iff _ _ _).2 ⟨Option.isSome_iff_ne_none.2 ht, hl, hp⟩)

/-- The end of a re-probe interval of a LOST port enters PROBING, and the arbiter chooses (R76). -/
theorem State.expireReprobeInterval_of_lost (ht : (s.port p).probeTimer ≠ none) (hl : (s.port p).link = .lost) :
    s.expireReprobeInterval p = (s.setPort p ((s.port p).enterProbing s.now)).arbitrate p :=
  if_pos (by simp [Option.isSome_iff_ne_none.2 ht, hl])

/-- A stopped probe timer does not run out (log entry 6). -/
theorem State.probeExpiries_of_stopped (h : (s.port p).probeTimer = none) :
    s.expireResponseWait p = s ∧ s.expireProbeInterval p = s ∧ s.expireReprobeInterval p = s := by
  have stopped : ∀ l x, ¬ (s.port p).probeTimes l x = true := fun l x => by simp [Port.probeTimes, h]
  exact ⟨if_neg (stopped _ _), if_neg (stopped _ _), if_neg (by simp [h])⟩

end

/-- Settles O58, by the expiry and the phase it ends, and by RESTART. -/
theorem probesFallDueAndFail : Obligations.ProbesFallDueAndFail := by
  intro s p
  have hwait : exec (.probeResponseWaitExpiry p) s = .next (s.expireResponseWait p) := rfl
  have hinterval : exec (.probeIntervalExpiry p) s = .next (s.expireProbeInterval p) := rfl
  have hreprobe : exec (.reprobeIntervalExpiry p) s = .next (s.expireReprobeInterval p) := rfl
  rw [hwait, hinterval, hreprobe]
  dsimp only
  refine ⟨fun ht hl hp => ?_, fun ht hl hp => ?_, fun ht hl => ?_, fun hr hl => ?_, fun ht => ?_⟩
  · rw [State.expireResponseWait_of_waiting ht hl hp, Port.failProbe, satSucc16_eq]
    rfl
  · rw [State.expireProbeInterval_of_resting ht hl hp]
    rfl
  · rw [State.expireReprobeInterval_of_lost ht hl]
    rfl
  · rw [exec_restart hr, State.restartPort_of_lost hl]
    rfl
  · obtain ⟨hw, hi, hre⟩ := State.probeExpiries_of_stopped ht
    exact ⟨congrArg _ hw, congrArg _ hi, congrArg _ hre⟩

/-! ## Attention -/

/-- A flag of 1 sets a latch of 0 and offers ATTENTION (R78). -/
theorem State.takeAttention_set (t : State) (p : PortId) : t.takeAttention p true =
    if (t.port p).station.attention = true then t else (t.setPort p { t.port p with
      station := { (t.port p).station with attention := true } }).offer ⟨.attention, p, .none, 0, .none⟩ := by
  unfold State.takeAttention
  cases (t.port p).station.attention <;> rfl

/-- A good frame with attention is the same frame without it, and then its flag (R78, log entry 4). -/
theorem State.stationFrame_attention {s : State} {p : PortId} (hl : (s.port p).link ≠ .off)
    (hc : (s.port p).carrier = true) {r : Seq} {body : StationBody} (hg : StationFrame.good ⟨false, r, body⟩ = true) :
    s.stationFrame p ⟨true, r, body⟩ = (s.stationFrame p ⟨false, r, body⟩).takeAttention p true := by
  have hlisten : (s.port p).listening = true := by simp [Port.listening, hl, hc]
  have hdeliver : s.stationFrame p ⟨true, r, body⟩ = (s.setPort p (s.port p).toHunt).deliver p ⟨true, r, body⟩ := by
    obtain ⟨hno, -⟩ | ⟨-, -, e⟩ | ⟨-, hbad, -⟩ := s.stationFrame_cases p ⟨true, r, body⟩
    · cases hlisten.symm.trans hno
    · exact e
    · exact absurd (hg.symm.trans hbad) (by decide)
  rw [hdeliver, State.stationFrame_of_good hl hc hg]
  rfl

/-- Settles O52: every kind of good frame takes its flag last. -/
theorem attentionFlagSetsTheLatch : Obligations.AttentionFlagSetsTheLatch := by
  intro s p r e data cause cls rev win hl hc h1 h16 hw1 hw8
  dsimp only
  simp only [← State.takeAttention_set]
  have row : ∀ body, StationFrame.good ⟨false, r, body⟩ = true →
      ∃ t, Host.Outcome.next (φ := Fault) (ρ := Refusal) (s.stationFrame p ⟨false, r, body⟩) = .next t ∧
        Host.Outcome.next (φ := Fault) (ρ := Refusal) (s.stationFrame p ⟨true, r, body⟩) = .next (t.takeAttention p true) :=
    fun body hg => ⟨_, rfl, congrArg _ (State.stationFrame_attention hl hc hg)⟩
  exact ⟨row .ack rfl, row (.data data) (by simp [StationFrame.good, dataLengthAllowed, h1, h16]),
    row (.reject cause e) rfl, row (.ident cls rev win) (by simp [StationFrame.good, identWindowAllowed, hw1, hw8])⟩

end Sys2Proof.Machine
end

section
/-! PROOF. O4: the configuration of a port that is not OFF and the fields of an enabled window entry are locked. The moves that a
port can make (`Port.LineMove`, `Port.HostMove`) carry the first half; the second is a matter of the three window registers. -/

namespace Sys2Proof.Machine

/-! ## The configuration of a port -/

theorem Port.config_of_core {q q' : Port} (e : q'.core = q.core) : q'.config = q.config :=
  congrArg (fun c => c.2.2.2.2.2) e

theorem Port.enterProbing_config (q : Port) (now : Nat) : (q.enterProbing now).config = q.config :=
  Port.config_of_core (q := { q with link := .probing }) (q.enterProbing_core now)

theorem Port.arbitrate_config (q : Port) : q.arbitrate.config = q.config := by
  obtain e | ⟨-, -, -, w, -, e⟩ | ⟨-, -, -, e⟩ | ⟨-, -, -, -, -, r, rest, -, -, e⟩ |
    ⟨-, -, -, -, -, -, r, rest, -, -, e⟩ := q.arbitrate_cases <;> rw [e] <;> rfl

theorem Port.exhausted_config (q : Port) (r : Record) (l : Leaving) (cause : Cause) (now : Nat) :
    ((q.dropOldest.counted r l).lost cause now).config = q.config := by
  obtain ⟨done, drop, e⟩ := q.dropOldest.counted_eq r l
  rw [e]
  rfl

theorem Port.retried_config (q : Port) : q.raiseRetry.beginRun.config = q.config := by
  unfold Port.raiseRetry
  split <;> rfl

theorem Port.reportEnd_config (q : Port) (f : BridgeFrame) (now : Nat) : (q.reportEnd f now).config = q.config := by
  unfold Port.reportEnd
  split
  · split <;> rfl
  · split <;> rfl

/-- No happening of the line or of time writes a configuration. -/
theorem Port.LineMove.config {q q' : Port} (m : q.LineMove q') : q'.config = q.config := by
  cases m with
  | aside m => exact Port.config_of_core m.core
  | arbitrate => exact q.arbitrate_config
  | complete w rest l now => exact congrArg (·.1) (q.complete_linkPart w.record l w.seq now)
  | exhaust w rest cause now => exact q.exhausted_config w.record _ cause now
  | retry => exact q.retried_config
  | beginBackoff w rest now hw => rw [Port.beginBackoff, hw]
  | endFrame x now => exact Port.reportEnd_config { q with transmitter := none } x.frame now
  | reprobe now => exact q.enterProbing_config now
  | _ => rfl

theorem Port.LineMoves.config {q q' : Port} (m : q.LineMoves q') : q'.config = q.config := by
  induction m with
  | refl => rfl
  | tail _ m ih => exact m.config.trans ih

theorem Port.join_config (q : Port) (r : Record) : (q.join r).config = q.config := by
  unfold Port.join
  split <;> rfl

/-- A host access writes the configuration of an OFF port alone (R98). -/
theorem Port.HostMove.config {q q' : Port} (m : q.HostMove q') (hl : q.link ≠ .off) : q'.config = q.config := by
  cases m with
  | configure c v hoff => exact absurd hoff hl
  | enable now hoff => exact absurd hoff hl
  | join r => exact q.join_config r
  | joinPosted remote d => exact q.join_config (postedRecord remote d)
  | _ => rfl

theorem Port.HostTurn.config {q q' : Port} (m : q.HostTurn q') (hl : q.link ≠ .off) : q'.config = q.config := by
  obtain m | ⟨x, m, rfl | rfl⟩ := m
  · exact m.config
  · exact m.config hl
  · exact x.arbitrate_config.trans (m.config hl)

/-! ## What a step leaves locked -/

/-- Every window entry that is enabled in `s` stands in `t`, or is disabled there with its other fields standing (R106, R108). -/
def State.WindowsLocked (s t : State) : Prop :=
  ∀ e, (s.window e).enable = true → t.window e = s.window e ∨ t.window e = (s.window e).disabled

theorem State.windowsLocked_of_eq {s t : State} (h : t.windows = s.windows) : State.WindowsLocked s t :=
  fun e _ => .inl (congrArg (·[e]) h)

/-- The settings that are locked in `s` stand in `t`. -/
structure State.Locks (s t : State) : Prop where
  config : ∀ p, (s.port p).link ≠ .off → (t.port p).config = (s.port p).config
  windows : State.WindowsLocked s t

theorem State.locks_of_eq {s t : State} (hp : t.ports = s.ports) (hw : t.windows = s.windows) : State.Locks s t :=
  ⟨fun p _ => by rw [State.port, hp]; rfl, State.windowsLocked_of_eq hw⟩

theorem State.Locks.withAnswer {s t : State} (h : State.Locks s t) (a : Answer) : State.Locks s (t.withAnswer a) :=
  ⟨h.config, h.windows⟩

theorem State.LineTurn.locks {p : PortId} {s t : State} (h : State.LineTurn p s t) : State.Locks s t :=
  ⟨fun r _ => (h.port r).config, State.windowsLocked_of_eq (State.shell_windows h.within.shell)⟩

theorem State.HostTurn.locks {p : PortId} {s t : State} (h : State.HostTurn p s t) (hw : State.WindowsLocked s t) :
    State.Locks s t where
  config r hl := by
    by_cases hr : r = p
    · subst hr; exact h.port.config hl
    · rw [h.others r hr]
  windows := hw

/-- A command of port `p` locks what its turn at the port locks: it reaches no window. -/
theorem State.HostTurn.locks_within {p : PortId} {s t : State} (h : State.HostTurn p s t) (w : State.Within p s t) :
    State.Locks s t := h.locks (State.windowsLocked_of_eq (State.shell_windows w.shell))

theorem State.locks_present (s : State) (b : Bool) {act : State → State} (h : State.Locks s (act s)) :
    State.Locks s (s.present b act) := by
  obtain ⟨-, -, e⟩ | ⟨a, -, e⟩ := s.present_cases b act <;> rw [e]
  · exact h
  · exact State.locks_of_eq rfl rfl

theorem State.locks_presentCommand (s : State) {act : State → State} (h : State.Locks s (act s)) :
    State.Locks s (s.presentCommand act) := s.locks_present true (h.withAnswer .ack)

/-! ## Window registers -/

/-- An entry that is replaced, and was disabled before or keeps its other fields, leaves every enabled entry locked. -/
theorem State.windowsLocked_setWindow (s : State) (e : EntryId) (w : WindowEntry)
    (h : (s.window e).enable = true → w = (s.window e).disabled) (a : Answer) :
    State.WindowsLocked s ((s.setWindow e w).withAnswer a) := by
  intro i hi
  rw [State.withAnswer_window, State.setWindow_window]
  split
  · rename_i he
    subst he
    exact .inr (h hi)
  · exact .inl rfl

/-- A control word of an enabled entry is taken only if it disables the entry and writes nothing else (R106). -/
theorem State.windowsLocked_writeWindowControl (s : State) (e : EntryId) (v : Word) :
    State.WindowsLocked s (s.writeWindowControl e v) := by
  have refused : State.WindowsLocked s (s.withAnswer .berr) := State.windowsLocked_of_eq rfl
  unfold State.writeWindowControl
  dsimp only
  split
  · split
    · rename_i hw
      exact s.windowsLocked_setWindow e _ (fun _ => hw) _
    · exact refused
  · rename_i hd
    split
    · exact s.windowsLocked_setWindow e _ (fun he => absurd he hd) _
    · exact refused

theorem State.windowsLocked_writeWindowBase (s : State) (e : EntryId) (v : Word) :
    State.WindowsLocked s (s.writeWindowBase e v) := by
  unfold State.writeWindowBase
  split
  · exact State.windowsLocked_of_eq rfl
  · rename_i hd
    exact s.windowsLocked_setWindow e _ (fun he => absurd he hd) _

theorem State.windowsLocked_writeWindowRemote (s : State) (e : EntryId) (v : Word) :
    State.WindowsLocked s (s.writeWindowRemote e v) := by
  unfold State.writeWindowRemote
  split
  · exact State.windowsLocked_of_eq rfl
  · rename_i hd
    exact s.windowsLocked_setWindow e _ (fun he => absurd he hd) _

/-! ## The other registers reach no window -/

theorem State.writeDiscardTime_windows (s : State) (v : Word) : (s.writeDiscardTime v).windows = s.windows := by
  unfold State.writeDiscardTime
  dsimp only
  split <;> rfl

theorem State.writeInterruptControl_windows (s : State) (v : Word) : (s.writeInterruptControl v).windows = s.windows := by
  unfold State.writeInterruptControl
  dsimp only
  split <;> rfl

theorem State.writeRequest_windows (s : State) (n : SlotId) (f : RequestSlot → RequestSlot) :
    (s.writeRequest n f).windows = s.windows := by
  unfold State.writeRequest
  split <;> rfl

theorem State.eventCommand_windows (s : State) (code : BitVec 4) : (s.eventCommand code).windows = s.windows := by
  unfold State.eventCommand
  split <;> rfl

theorem State.globalCommand_windows (s : State) (code : BitVec 4) : (s.globalCommand code).windows = s.windows := by
  unfold State.globalCommand
  split <;> rfl

theorem State.completeRequest_windows (s : State) (n : SlotId) (c : Cause) (b : Vector Byte 16) :
    (s.completeRequest n c b).windows = s.windows := State.shell_windows (s.within_completeRequest 0 n c b).shell

theorem State.admitRequest_windows (s : State) (n : SlotId) : (s.admitRequest n).windows = s.windows := by
  unfold State.admitRequest
  dsimp only
  split <;> rfl

theorem State.submitRequest_windows (s : State) (n : SlotId) : (s.submitRequest n).windows = s.windows := by
  unfold State.submitRequest
  dsimp only
  split
  · split
    · exact State.admitRequest_windows _ n
    · exact State.completeRequest_windows _ n _ _
  · rfl

theorem State.cancelRequest_windows (s : State) (n : SlotId) : (s.cancelRequest n).windows = s.windows := by
  unfold State.cancelRequest
  dsimp only
  split
  · exact State.completeRequest_windows _ n _ _
  · rfl

theorem State.releaseRequest_windows (s : State) (n : SlotId) : (s.releaseRequest n).windows = s.windows := by
  unfold State.releaseRequest
  dsimp only
  split <;> rfl

theorem State.slotCommand_windows (s : State) (n : SlotId) (code : BitVec 4) : (s.slotCommand n code).windows = s.windows := by
  unfold State.slotCommand
  repeat' split
  · exact s.submitRequest_windows n
  · exact s.cancelRequest_windows n
  · exact s.releaseRequest_windows n
  · rfl

theorem State.windowsLocked_writeReg (s : State) (r : Reg) (v : Word) : State.WindowsLocked s (s.writeReg r v) := by
  cases r with
  | globalControl => exact State.windowsLocked_of_eq (s.globalCommand_windows _)
  | eventControl => exact State.windowsLocked_of_eq (s.eventCommand_windows _)
  | interruptControl => exact State.windowsLocked_of_eq (s.writeInterruptControl_windows v)
  | discardTime => exact State.windowsLocked_of_eq (s.writeDiscardTime_windows v)
  | windowControl e => exact s.windowsLocked_writeWindowControl e v
  | windowBase e => exact s.windowsLocked_writeWindowBase e v
  | windowRemote e => exact s.windowsLocked_writeWindowRemote e v
  | requestControl n => exact State.windowsLocked_of_eq (s.writeRequest_windows n _)
  | requestRemote n => exact State.windowsLocked_of_eq (s.writeRequest_windows n _)
  | requestData n k => exact State.windowsLocked_of_eq (s.writeRequest_windows n _)
  | requestCommand n => exact State.windowsLocked_of_eq (s.slotCommand_windows n _)
  | port p x =>
    cases x with
    | control => exact State.windowsLocked_of_eq (State.shell_windows (s.within_portCommand p (commandCode v)).shell :)
    | configA => exact State.windowsLocked_of_eq (s.spares_writeConfigA p v).windows
    | configB => exact State.windowsLocked_of_eq (s.spares_writeConfigB p v).windows
    | _ => exact State.windowsLocked_of_eq rfl
  | _ => exact State.windowsLocked_of_eq rfl

/-- A register write reaches one port at most, whose configuration is written while it is OFF (R98, R106). -/
theorem State.locks_writeReg (s : State) (r : Reg) (v : Word) : State.Locks s (s.writeReg r v) :=
  have ⟨_, h⟩ := s.hostTurn_writeReg r v
  h.locks (s.windowsLocked_writeReg r v)

theorem State.readAccess_windows (s : State) (r : Reg) : (s.readAccess r).windows = s.windows := by
  cases r <;> rfl

theorem State.locks_readAccess (s : State) (r : Reg) : State.Locks s (s.readAccess r) :=
  have ⟨_, h⟩ := s.hostTurn_readAccess r
  h.locks (State.windowsLocked_of_eq (s.readAccess_windows r))

theorem State.locks_registerAccess (s : State) (off : BitVec 10) (a : RegAccess) : State.Locks s (s.registerAccess off a) := by
  unfold State.registerAccess
  split
  · exact State.locks_of_eq rfl rfl
  · split
    · exact State.locks_of_eq rfl rfl
    · exact s.locks_readAccess _
  · split
    · exact State.locks_of_eq rfl rfl
    · exact s.locks_writeReg _ _

/-! ## Accesses to windows -/

theorem State.ownedWrite_windows (s : State) (h : Hit) (d : WriteData) : (s.ownedWrite h d).windows = s.windows := by
  unfold State.ownedWrite
  split
  · rfl
  · split <;> rfl

theorem State.newRead_windows (s : State) (k : ReadKey) (h : Hit) : (s.newRead k h).windows = s.windows := by
  unfold State.newRead
  split
  · rfl
  · split
    · rfl
    · split <;> rfl

theorem State.ownedRead_windows (s : State) (k : ReadKey) (h : Hit) : (s.ownedRead k h).windows = s.windows := by
  unfold State.ownedRead
  split
  · rfl
  · unfold State.decideRead
    split
    · exact s.newRead_windows k h
    · split
      · rfl
      · split
        · rfl
        · exact State.newRead_windows _ k h
      · split
        · rfl
        · exact State.newRead_windows _ k h

theorem State.locks_pass (s : State) (a : HeldAccess) : State.Locks s (s.pass a) := State.locks_of_eq rfl rfl

/-- A mirrored write reaches the mirror-lost counter or the NORMAL lane of its port (R7, R119). -/
theorem State.locks_mirroredWrite (s : State) (m : MasterId) (addr : Word) (h : Hit) (d : WriteData) :
    State.Locks s (s.mirroredWrite m addr h d) := by
  obtain ⟨-, e⟩ | ⟨-, -, e⟩ | ⟨-, -, e⟩ | ⟨-, -, -, e⟩ := s.mirroredWrite_cases m addr h d <;> rw [e]
  · exact s.locks_pass _
  · exact ⟨(s.lineTurn_loseMirror h.port).locks.config, (s.lineTurn_loseMirror h.port).locks.windows⟩
  · refine ⟨fun p _ => ?_, State.windowsLocked_of_eq rfl⟩
    rw [State.pass_port, State.reserveMirror, State.setTarget_port, State.modPort_port]
    split
    · rename_i hp
      subst hp
      exact Port.join_config _ _
    · rfl
  · exact State.locks_of_eq rfl rfl

theorem State.locks_hostAccess (s : State) (m : MasterId) (addr : Word) (k : AccessKind) :
    State.Locks s (s.hostAccess m addr k) := by
  refine s.locks_present _ ?_
  unfold State.windowAccess
  split
  · exact s.locks_registerAccess _ _
  · split
    · exact s.locks_pass _
    · split
      · exact (s.hostTurn_ownedWrite _ _).locks (State.windowsLocked_of_eq (s.ownedWrite_windows _ _))
      · exact (s.hostTurn_ownedRead _ _).locks (State.windowsLocked_of_eq (s.ownedRead_windows _ _))
      · exact s.locks_mirroredWrite m addr _ _
      · exact s.locks_pass _

theorem State.commitMirror_windows (s : State) (p : PortId) : (s.commitMirror p).windows = s.windows := by
  unfold State.commitMirror
  dsimp only
  split <;> rfl

theorem State.commitMirror_config (s : State) (p r : PortId) : ((s.commitMirror p).port r).config = (s.port r).config := by
  have committed (data : List Byte) : ((s.modPort p (·.commitReserved data)).port r).config = (s.port r).config := by
    rw [State.modPort_port]
    split
    · rename_i hr; rw [hr]; rfl
    · rfl
  have arbitrated (t : State) : ((t.arbitrate p).port r).config = (t.port r).config := by
    rw [State.arbitrate_port]
    split
    · rename_i hr; rw [hr]; exact (t.port p).arbitrate_config
    · rfl
  unfold State.commitMirror
  dsimp only
  rw [arbitrated]
  split <;> exact committed _

theorem State.releaseMirror_config (s : State) (p r : PortId) : ((s.releaseMirror p).port r).config = (s.port r).config := by
  rw [State.releaseMirror, State.setTarget_port, State.modPort_port]
  split
  · rename_i hr; rw [hr]; rfl
  · rfl

theorem State.locks_terminateAccess (s : State) (x : Termination) : State.Locks s (s.terminateAccess x) := by
  obtain ⟨-, e⟩ | ⟨p, -, ⟨-, e⟩ | ⟨-, e⟩⟩ := s.terminateAccess_cases x <;> rw [e]
  · exact State.locks_of_eq rfl rfl
  · exact ⟨fun r _ => s.commitMirror_config p r, State.windowsLocked_of_eq (s.commitMirror_windows p)⟩
  · exact ⟨fun r _ => s.releaseMirror_config p r, State.windowsLocked_of_eq rfl⟩

/-! ## The response timer and the chip reset -/

/-- The retry of the oldest leaves the configuration, in a lawful state or not. -/
theorem State.retryOldest_config (s : State) (p : PortId) : ((s.retryOldest p).port p).config = (s.port p).config := by
  obtain ⟨-, e⟩ | ⟨w, rest, -, ⟨-, e⟩ | ⟨-, e⟩⟩ := s.retryOldest_cases p <;> rw [e]
  · rw [State.arbitrate_port_self, Port.arbitrate_config, State.modPort_port_self, Port.retried_config]
  · rw [State.exhaust_port, Port.exhausted_config]

theorem State.expireResponseTimer_config (s : State) (p : PortId) :
    ((s.expireResponseTimer p).port p).config = (s.port p).config := by
  unfold State.expireResponseTimer
  split
  · rfl
  · rw [State.retryOldest_config, State.modPort_port_self]

theorem State.locks_expireResponseTimer (s : State) (p : PortId) : State.Locks s (s.expireResponseTimer p) where
  config r _ := by
    by_cases hr : r = p
    · rw [hr]; exact s.expireResponseTimer_config p
    · rw [(s.within_expireResponseTimer p).others r hr]
  windows := State.windowsLocked_of_eq (State.shell_windows (s.within_expireResponseTimer p).shell)

/-- A chip reset keeps every configuration, and of a window entry all but the enable (R108, R160). -/
theorem State.locks_chipReset (s : State) : State.Locks s s.chipReset where
  config p _ := by rw [State.chipReset_port]; rfl
  windows e _ := .inr (s.chipReset_window e)

theorem State.locks_expireDiscardTimer (s : State) (n : SlotId) : State.Locks s (s.expireDiscardTimer n) := by
  unfold State.expireDiscardTimer
  split
  · exact State.locks_of_eq rfl rfl
  · split <;> exact State.locks_of_eq rfl rfl

/-! ## Every command -/

/-- Every command but the hardware reset leaves the locked settings, in every state. -/
theorem exec_locks {c : Instr} {s t : State} (hc : c ≠ .hardwareReset) (h : exec c s = .next t) : State.Locks s t := by
  have same {u : State} (hp : u.ports = s.ports) (hw : u.windows = s.windows) := State.locks_of_eq hp hw
  cases c <;> cases h
  case hardwareReset => exact absurd rfl hc
  case ownedWrite => exact s.locks_hostAccess _ _ _
  case ownedRead => exact s.locks_hostAccess _ _ _
  case mirroredWrite => exact s.locks_hostAccess _ _ _
  case passedAccess => exact s.locks_hostAccess _ _ _
  case mirrorTermination => exact s.locks_terminateAccess _
  case registerWrite => exact s.locks_present _ (s.locks_registerAccess _ _)
  case configurationAWrite p v => exact s.locks_present _ (s.locks_writeReg (.port p .configA) v)
  case configurationBWrite p v => exact s.locks_present _ (s.locks_writeReg (.port p .configB) v)
  case windowControlWrite e v => exact s.locks_present _ (s.locks_writeReg (.windowControl e) v)
  case windowBaseWrite e v => exact s.locks_present _ (s.locks_writeReg (.windowBase e) v)
  case windowRemoteWrite e v => exact s.locks_present _ (s.locks_writeReg (.windowRemote e) v)
  case discardTimeWrite v => exact s.locks_present _ (s.locks_writeReg .discardTime v)
  case classMaskWrite v => exact s.locks_present _ (s.locks_writeReg .classMask v)
  case interruptControlWrite v => exact s.locks_present _ (s.locks_writeReg .interruptControl v)
  case requestControlWrite n v => exact s.locks_present _ (s.locks_writeReg (.requestControl n) v)
  case requestRemoteAddressWrite n v => exact s.locks_present _ (s.locks_writeReg (.requestRemote n) v)
  case requestDataWrite n k v => exact s.locks_present _ (s.locks_writeReg (.requestData n k) v)
  case enable p => exact s.locks_presentCommand ((s.hostTurn_enablePort p).locks_within (s.within_enablePort p))
  case disable p => exact s.locks_presentCommand ((s.hostTurn_disablePort p).locks_within (s.within_disablePort p))
  case resume p => exact s.locks_presentCommand ((s.hostTurn_resumePort p).locks_within (s.within_resumePort p))
  case flush p => exact s.locks_presentCommand ((s.hostTurn_flushPort p).locks_within (s.within_flushPort p))
  case restart p => exact s.locks_presentCommand ((s.hostTurn_restartPort p).locks_within (s.within_restartPort p))
  case ackAttention p => exact s.locks_presentCommand ((s.hostTurn_ackAttention p).locks_within (s.within_ackAttention p))
  case portCommandUnknown p v =>
    exact s.locks_presentCommand ((s.hostTurn_portCommand p _).locks_within (s.within_portCommand p _))
  case submit n =>
    exact s.locks_presentCommand ((s.hostTurn_submitRequest n).locks (State.windowsLocked_of_eq (s.submitRequest_windows n)))
  case cancel n =>
    exact s.locks_presentCommand ((s.hostTurn_cancelRequest n).locks (State.windowsLocked_of_eq (s.cancelRequest_windows n)))
  case release n =>
    exact s.locks_presentCommand ((s.hostTurn_releaseRequest 0 n).locks (State.windowsLocked_of_eq (s.releaseRequest_windows n)))
  case slotCommandUnknown n v =>
    exact s.locks_presentCommand ((s.hostTurn_slotCommand n _).locks (State.windowsLocked_of_eq (s.slotCommand_windows n _)))
  case pop => exact s.locks_presentCommand (same rfl rfl)
  case eventCommandUnknown v =>
    exact s.locks_presentCommand (same (s.samePorts_eventCommand _).ports (s.eventCommand_windows _))
  case chipReset => exact s.locks_presentCommand (same rfl rfl)
  case globalCommandUnknown v =>
    exact s.locks_presentCommand (same (s.samePorts_globalCommand _).ports (s.globalCommand_windows _))
  case chipResetTaken =>
    split
    · exact s.locks_chipReset
    · exact same rfl rfl
  case resetRelease =>
    split
    · exact same rfl rfl
    · exact same rfl rfl
  case crcErrorCounterRead => exact s.locks_present _ (s.locks_readAccess _)
  case malformedFrameCounterRead => exact s.locks_present _ (s.locks_readAccess _)
  case retransmissionCounterRead => exact s.locks_present _ (s.locks_readAccess _)
  case staleResponseCounterRead => exact s.locks_present _ (s.locks_readAccess _)
  case probeAttemptCounterRead => exact s.locks_present _ (s.locks_readAccess _)
  case mirrorLostCounterRead => exact s.locks_present _ (s.locks_readAccess _)
  case refusalCounterRead => exact s.locks_present _ (s.locks_readAccess _)
  case invalidationCounterRead => exact s.locks_present _ (s.locks_readAccess _)
  case ackFrameReceived p _ _ => exact (s.lineTurn_stationFrame p _).locks
  case dataFrameReceived p _ _ _ => exact (s.lineTurn_stationFrame p _).locks
  case rejectFrameReceived p _ _ _ _ => exact (s.lineTurn_stationFrame p _).locks
  case identFrameReceived p _ _ _ _ _ => exact (s.lineTurn_stationFrame p _).locks
  case crcErrorFrame p bs => exact (State.lineTurn_lineBytes p bs s).locks
  case malformedFrame p bs => exact (State.lineTurn_lineBytes p bs s).locks
  case carrierLost p => exact (s.lineTurn_loseCarrier p).locks
  case carrierRegained p => exact (s.lineTurn_regainCarrier p).locks
  case transmissionEnd p => exact (s.lineTurn_endTransmission p).locks
  case responseTimerExpiry p => exact s.locks_expireResponseTimer p
  case busyBackoffEnd p => exact (s.lineTurn_endBackoff p).locks
  case probeResponseWaitExpiry p => exact (s.lineTurn_expireResponseWait p).locks
  case probeIntervalExpiry p => exact (s.lineTurn_expireProbeInterval p).locks
  case reprobeIntervalExpiry p => exact (s.lineTurn_expireReprobeInterval p).locks
  case discardTimerExpiry n => exact s.locks_expireDiscardTimer n
  case holdoffTimerExpiry => exact same rfl rfl
  case timestampTick => exact same rfl rfl

/-- Settles O4, by the command. -/
theorem lockedSettingsStand : Obligations.LockedSettingsStand := fun _ _ _ hc h =>
  have locked := exec_locks hc h
  ⟨locked.config, locked.windows⟩

end Sys2Proof.Machine
end

section
/-! PROOF. O26 and O27: the setting registers. A setting write that is taken is an equation of its own; the word that is read back
is compared with the word written field by field, each under its part of the mask. -/

namespace Sys2Proof.Machine

/-! ## Configuration words -/

theorem LinkRate.ofCode_code (r : LinkRate) : LinkRate.ofCode r.code = some r := by
  cases r <;> decide

theorem LinkRate.code_of_ofCode {code : BitVec 3} {r : LinkRate} (h : LinkRate.ofCode code = some r) : r.code = code := by
  revert code r
  decide

/-- Codes 4 to 7 name no rate (Table 11-3). -/
theorem LinkRate.ofCode_eq_none {code : BitVec 3} (h : 4 ≤ code.toNat) : LinkRate.ofCode code = none := by
  revert code
  decide

/-- The configuration that a configuration A word in range gives (Table 11-3). -/
def PortConfig.givenA (c : PortConfig) (v : Word) (rate : LinkRate) : PortConfig :=
  { c with
    rate := rate
    windowLimit := v.extractLsb' 4 4
    retryLimit := v.extractLsb' 8 3
    busyLimit := v.extractLsb' 12 4
    autoReprobe := v.getLsbD 16
    probeInterval := v.extractLsb' 24 8 }

/-- A configuration A word is taken exactly where every field is in range (R98). -/
theorem PortConfig.withA_eq_some {c d : PortConfig} {v : Word} : c.withA v = some d ↔
    ∃ rate, LinkRate.ofCode (v.extractLsb' 0 3) = some rate ∧ 1 ≤ (v.extractLsb' 4 4).toNat ∧
      (v.extractLsb' 4 4).toNat ≤ 8 ∧ v.extractLsb' 12 4 ≠ 0 ∧ v.extractLsb' 24 8 ≠ 0 ∧ c.givenA v rate = d := by
  unfold PortConfig.withA
  cases LinkRate.ofCode (v.extractLsb' 0 3) with
  | none => simp
  | some rate =>
    simp only [Option.ite_none_left_eq_some, Option.some.injEq, not_or, not_lt, exists_eq_left', and_assoc,
      Nat.one_le_iff_ne_zero, ← ne_eq, PortConfig.givenA]

theorem PortConfig.withB_eq_some {c d : PortConfig} {v : Word} : c.withB v = some d ↔
    v.extractLsb' 0 8 ≠ 0 ∧ v.extractLsb' 16 8 ≠ 0 ∧
      { c with timeoutSteps := v.extractLsb' 0 8, backoffSteps := v.extractLsb' 16 8 } = d := by
  simp only [PortConfig.withB, Option.ite_none_left_eq_some, Option.some.injEq, not_or, and_assoc, ne_eq]

theorem PortConfig.withA_eq_none {c : PortConfig} {v : Word}
    (h : 4 ≤ (v.extractLsb' 0 3).toNat ∨ (v.extractLsb' 4 4).toNat = 0 ∨ 8 < (v.extractLsb' 4 4).toNat ∨
      v.extractLsb' 12 4 = 0 ∨ v.extractLsb' 24 8 = 0) : c.withA v = none := by
  rw [Option.eq_none_iff_forall_ne_some]
  intro d hd
  obtain ⟨rate, hrate, h1, h8, hbusy, hinterval, -⟩ := PortConfig.withA_eq_some.1 hd
  obtain h | h | h | h | h := h
  · rw [LinkRate.ofCode_eq_none h] at hrate
    cases hrate
  · omega
  · omega
  · exact hbusy h
  · exact hinterval h

theorem PortConfig.withB_eq_none {c : PortConfig} {v : Word} (h : v.extractLsb' 0 8 = 0 ∨ v.extractLsb' 16 8 = 0) :
    c.withB v = none := if_pos h

/-! ## Setting writes that are taken or refused -/

section
variable {s : State}

/-- A configuration write once its word is read: none where a field is out of range (R98). -/
def State.takeConfig (s : State) (p : PortId) (written : Option PortConfig) : State :=
  match written with
  | none => s.withAnswer .berr
  | some c => if (s.port p).link = .off then (s.setPort p { s.port p with config := c }).withAnswer .ack else s.withAnswer .berr

theorem State.writeConfigA_eq (s : State) (p : PortId) (v : Word) :
    s.writeConfigA p v = s.takeConfig p ((s.port p).config.withA v) := by
  unfold State.writeConfigA State.takeConfig
  cases (s.port p).config.withA v <;> rfl

theorem State.writeConfigB_eq (s : State) (p : PortId) (v : Word) :
    s.writeConfigB p v = s.takeConfig p ((s.port p).config.withB v) := by
  unfold State.writeConfigB State.takeConfig
  cases (s.port p).config.withB v <;> rfl

theorem State.takeConfig_of_off {p : PortId} (hl : (s.port p).link = .off) (c : PortConfig) :
    s.takeConfig p (some c) = (s.setPort p { s.port p with config := c }).withAnswer .ack := if_pos hl

theorem State.takeConfig_of_refused {p : PortId} {written : Option PortConfig} (h : written = none ∨ (s.port p).link ≠ .off) :
    s.takeConfig p written = s.withAnswer .berr := by
  obtain rfl | hl := h
  · rfl
  · cases written with
    | none => rfl
    | some c => exact if_neg hl

/-- A control word is taken by a disabled entry that may be written so, and by an enabled one that it only disables (R105, R106). -/
theorem State.writeWindowControl_of_taken {e : EntryId} {v : Word}
    (h : (s.window e).enable = false ∧ ((s.window e).withControl v).acceptable = true ∨
      (s.window e).enable = true ∧ (s.window e).withControl v = (s.window e).disabled) :
    s.writeWindowControl e v = (s.setWindow e ((s.window e).withControl v)).withAnswer .ack := by
  unfold State.writeWindowControl
  dsimp only
  obtain ⟨hd, ha⟩ | ⟨he, hw⟩ := h
  · rw [if_neg (by simp [hd]), if_pos ha]
  · rw [if_pos he, if_pos hw]

theorem State.writeWindowBase_of_disabled {e : EntryId} (h : (s.window e).enable = false) (v : Word) :
    s.writeWindowBase e v = (s.setWindow e { s.window e with base := v.extractLsb' 12 20 }).withAnswer .ack :=
  if_neg (by simp [h])

theorem State.writeWindowRemote_of_disabled {e : EntryId} (h : (s.window e).enable = false) (v : Word) :
    s.writeWindowRemote e v = (s.setWindow e { s.window e with remote := v.extractLsb' 4 28 }).withAnswer .ack :=
  if_neg (by simp [h])

theorem State.writeDiscardTime_of_taken {v : Word} (h : v.extractLsb' 0 8 ≠ 0) :
    s.writeDiscardTime v = (s.setReads { s.reads with discardSteps := v.extractLsb' 0 8 }).withAnswer .ack := if_neg h

theorem State.writeInterruptControl_of_taken {v : Word} (h1 : 1 ≤ (v.extractLsb' 8 7).toNat)
    (h64 : (v.extractLsb' 8 7).toNat ≤ 64) :
    s.writeInterruptControl v = (s.setEvents (EventQueue.judged { s.events with
      irqEnable := v.getLsbD 0, threshold := v.extractLsb' 8 7, holdoffSteps := v.extractLsb' 16 8 })).withAnswer .ack :=
  if_neg (by omega)

theorem State.writeRequest_of_idle {n : SlotId} (h : (s.request n).state = .idle) (f : RequestSlot → RequestSlot) :
    s.writeRequest n f = (s.setRequest n (f (s.request n))).withAnswer .ack := if_pos h

end

/-- Settles O27: a word in range is taken by an OFF port; out of range, or at another link state, it is refused. -/
theorem configurationWritesNeedAnOffPort : Obligations.ConfigurationWritesNeedAnOffPort := by
  intro s p v hr
  dsimp only
  have rowA : exec (.configurationAWrite p v) s = .next (s.takeConfig p ((s.port p).config.withA v)) :=
    congrArg Host.Outcome.next ((State.present_of_ready hr rfl _).trans (s.writeConfigA_eq p v))
  have rowB : exec (.configurationBWrite p v) s = .next (s.takeConfig p ((s.port p).config.withB v)) :=
    congrArg Host.Outcome.next ((State.present_of_ready hr rfl _).trans (s.writeConfigB_eq p v))
  rw [rowA, rowB]
  refine ⟨fun rate hrate h1 h8 hbusy hinterval hoff => ?_, fun h => ?_, fun htimeout hbackoff hoff => ?_, fun h => ?_⟩
  · rw [PortConfig.withA_eq_some.2 ⟨rate, hrate, h1, h8, hbusy, hinterval, rfl⟩, State.takeConfig_of_off hoff]
    rfl
  · rw [State.takeConfig_of_refused]
    simp only [← or_assoc] at h
    exact h.imp_left fun h => PortConfig.withA_eq_none (by simpa only [or_assoc] using h)
  · rw [PortConfig.withB_eq_some.2 ⟨htimeout, hbackoff, rfl⟩, State.takeConfig_of_off hoff]
  · rw [State.takeConfig_of_refused]
    rw [← or_assoc] at h
    exact h.imp_left PortConfig.withB_eq_none

/-! ## Words under their masks -/

/-- Part of a word under a mask, cut at bit `w`: the part above and the part below, each under its own mask. -/
theorem append_eq_masked {v w start : Nat} {x : Word} {hi mh : BitVec v} {lo ml : BitVec w}
    (h : hi = x.extractLsb' (start + w) v &&& mh) (k : lo = x.extractLsb' start w &&& ml) :
    hi ++ lo = x.extractLsb' start (v + w) &&& (mh ++ ml) := by
  rw [h, k, ← BitVec.and_append, BitVec.extractLsb'_append_extractLsb'_eq_extractLsb' (by omega)]

theorem masked_whole {x r m : Word} (h : r = x.extractLsb' 0 32 &&& m) : r = x &&& m := by
  rwa [BitVec.extractLsb'_eq_self] at h

theorem bit_getLsbD (x : Word) (i : Nat) : bit (x.getLsbD i) = x.extractLsb' i 1 := by
  apply BitVec.eq_of_getLsbD_eq
  intro j hj
  obtain rfl : j = 0 := by omega
  cases h : x.getLsbD i <;> simp [bit, h]

theorem WindowMode.ofBit_code (b : Bool) : (WindowMode.ofBit b).code = bit b := by cases b <;> rfl

theorem Operation.ofBit_code (b : Bool) : (Operation.ofBit b).code = bit b := by cases b <;> rfl

theorem two_ofTwo (b : BitVec 2) : two (ofTwo b) = b := by
  rw [two, ofTwo, BitVec.ofNat_toNat, BitVec.setWidth_eq]

theorem PortConfig.wordA_of_withA {c d : PortConfig} {v : Word} (h : c.withA v = some d) : d.wordA = v &&& 0xFF01F7F7#32 := by
  obtain ⟨rate, hrate, -, -, -, -, rfl⟩ := PortConfig.withA_eq_some.1 h
  have hmask : 0xFF01F7F7#32 = BitVec.allOnes 8 ++ 0#7 ++ BitVec.allOnes 1 ++ BitVec.allOnes 4 ++ 0#1 ++ BitVec.allOnes 3 ++
    BitVec.allOnes 4 ++ 0#1 ++ BitVec.allOnes 3 := by decide
  apply masked_whole
  rw [hmask]
  simp only [PortConfig.wordA, PortConfig.givenA, LinkRate.code_of_ofCode hrate, bit_getLsbD]
  repeat' apply append_eq_masked
  all_goals simp only [↓BitVec.and_allOnes, BitVec.and_zero, Nat.reduceAdd]

theorem PortConfig.wordB_of_withB {c d : PortConfig} {v : Word} (h : c.withB v = some d) : d.wordB = v &&& 0x00FF00FF#32 := by
  obtain ⟨-, -, rfl⟩ := PortConfig.withB_eq_some.1 h
  have hmask : 0x00FF00FF#32 = 0#8 ++ BitVec.allOnes 8 ++ 0#8 ++ BitVec.allOnes 8 := by decide
  apply masked_whole
  rw [hmask]
  unfold PortConfig.wordB
  repeat' apply append_eq_masked
  all_goals simp only [↓BitVec.and_allOnes, BitVec.and_zero, Nat.reduceAdd]

theorem WindowEntry.controlWord_withControl (w : WindowEntry) (v : Word) :
    (w.withControl v).controlWord = v &&& 0x00031F33#32 := by
  have hmask : 0x00031F33#32 = 0#14 ++ BitVec.allOnes 1 ++ BitVec.allOnes 1 ++ 0#3 ++ BitVec.allOnes 5 ++ 0#2 ++
    BitVec.allOnes 2 ++ 0#2 ++ BitVec.allOnes 1 ++ BitVec.allOnes 1 := by decide
  apply masked_whole
  rw [hmask]
  simp only [WindowEntry.controlWord, WindowEntry.withControl, WindowMode.ofBit_code, two_ofTwo, bit_getLsbD]
  repeat' apply append_eq_masked
  all_goals simp only [↓BitVec.and_allOnes, BitVec.and_zero, Nat.reduceAdd]

theorem RequestSlot.controlWord_withControl (q : RequestSlot) (v : Word) :
    (q.withControl v).controlWord = v &&& 0x00031F13#32 := by
  have hmask : 0x00031F13#32 = 0#14 ++ BitVec.allOnes 1 ++ BitVec.allOnes 1 ++ 0#3 ++ BitVec.allOnes 5 ++ 0#3 ++
    BitVec.allOnes 1 ++ 0#2 ++ BitVec.allOnes 2 := by decide
  apply masked_whole
  rw [hmask]
  simp only [RequestSlot.controlWord, RequestSlot.withControl, Operation.ofBit_code, two_ofTwo, bit_getLsbD]
  repeat' apply append_eq_masked
  all_goals simp only [↓BitVec.and_allOnes, BitVec.and_zero, Nat.reduceAdd]

theorem EventQueue.controlWord_written (e : EventQueue) (v : Word) :
    (EventQueue.judged { e with
      irqEnable := v.getLsbD 0, threshold := v.extractLsb' 8 7, holdoffSteps := v.extractLsb' 16 8 }).controlWord =
      v &&& 0x00FF7F01#32 := by
  have hmask : 0x00FF7F01#32 = 0#8 ++ BitVec.allOnes 8 ++ 0#1 ++ BitVec.allOnes 7 ++ 0#7 ++ BitVec.allOnes 1 := by decide
  apply masked_whole
  rw [hmask]
  simp only [EventQueue.controlWord, EventQueue.judged, bit_getLsbD]
  repeat' apply append_eq_masked
  all_goals simp only [↓BitVec.and_allOnes, BitVec.and_zero, Nat.reduceAdd]

theorem discardTime_masked (v : Word) : 0#24 ++ v.extractLsb' 0 8 = v &&& 0x000000FF#32 :=
  masked_whole (m := 0#24 ++ BitVec.allOnes 8) (append_eq_masked BitVec.and_zero.symm BitVec.and_allOnes.symm)

theorem classMask_masked (v : Word) : 0#23 ++ v.extractLsb' 0 9 = v &&& 0x000001FF#32 :=
  masked_whole (m := 0#23 ++ BitVec.allOnes 9) (append_eq_masked BitVec.and_zero.symm BitVec.and_allOnes.symm)

theorem windowBase_masked (v : Word) : v.extractLsb' 12 20 ++ 0#12 = v &&& 0xFFFFF000#32 :=
  masked_whole (m := BitVec.allOnes 20 ++ 0#12) (append_eq_masked BitVec.and_allOnes.symm BitVec.and_zero.symm)

theorem windowRemote_masked (v : Word) : v.extractLsb' 4 28 ++ 0#4 = v &&& 0xFFFFFFF0#32 :=
  masked_whole (m := BitVec.allOnes 28 ++ 0#4) (append_eq_masked BitVec.and_allOnes.symm BitVec.and_zero.symm)

/-! ## A configuration in range -/

theorem PortConfig.wordA_fields (c : PortConfig) :
    let v := c.wordA
    v.extractLsb' 0 3 = c.rate.code ∧ v.extractLsb' 4 4 = c.windowLimit ∧ v.extractLsb' 8 3 = c.retryLimit ∧
      v.extractLsb' 12 4 = c.busyLimit ∧ v.getLsbD 16 = c.autoReprobe ∧ v.extractLsb' 24 8 = c.probeInterval := by
  unfold PortConfig.wordA
  refine ⟨?_, ?_, ?_, ?_, ?_, ?_⟩
  iterate 4
    · repeat refine extract_above ?_ (by decide)
      exact BitVec.extractLsb'_append_eq_right
  · repeat refine bit_above ?_ (by decide)
    exact bit_lowest _
  · repeat refine extract_above ?_ (by decide)
    exact BitVec.extractLsb'_eq_self

theorem PortConfig.wordB_fields (c : PortConfig) :
    let v := c.wordB
    v.extractLsb' 0 8 = c.timeoutSteps ∧ v.extractLsb' 16 8 = c.backoffSteps := by
  unfold PortConfig.wordB
  refine ⟨?_, ?_⟩
  iterate 2
    · repeat refine extract_above ?_ (by decide)
      exact BitVec.extractLsb'_append_eq_right

/-- Its words are taken, and give it again (R98). -/
theorem PortConfig.InRange.withA_wordA {c : PortConfig} (h : c.InRange) : c.withA c.wordA = some c := by
  obtain ⟨hrate, hlimit, hretry, hbusy, hauto, hinterval⟩ := c.wordA_fields
  refine PortConfig.withA_eq_some.2 ⟨c.rate, ?_, ?_, ?_, ?_, ?_, ?_⟩
  · rw [hrate, LinkRate.ofCode_code]
  · rw [hlimit]; exact h.windowLimit.1
  · rw [hlimit]; exact h.windowLimit.2
  · rw [hbusy]; exact h.busyLimit
  · rw [hinterval]; exact h.probeInterval
  · rw [PortConfig.givenA, hlimit, hretry, hbusy, hauto, hinterval]

theorem PortConfig.InRange.withB_wordB {c : PortConfig} (h : c.InRange) : c.withB c.wordB = some c := by
  obtain ⟨htimeout, hbackoff⟩ := c.wordB_fields
  refine PortConfig.withB_eq_some.2 ⟨?_, ?_, ?_⟩
  · rw [htimeout]; exact h.timeout
  · rw [hbackoff]; exact h.backoff
  · rw [htimeout, hbackoff]

/-! ## Words of the data buffer -/

theorem wordBytes_getElem (v : Word) (i : Nat) (hi : i < (wordBytes v).length) :
    (wordBytes v)[i] = v.extractLsb' (24 - 8 * i) 8 := by
  change i < 4 at hi
  interval_cases i <;> rfl

/-- A write to word `k` reaches its four bytes alone, byte 4k in bits 31 to 24 (Table 11-5). -/
theorem writeBufferWord_get (b : Vector Byte 16) (k : Fin 4) (v : Word) (j : Fin 16) :
    (writeBufferWord b k v)[j] = if j.val / 4 = k.val then v.extractLsb' (24 - 8 * (j.val % 4)) 8 else b[j] := by
  have hbelow : (b.toList.take (4 * k.val)).length = 4 * k.val := by simp; omega
  have hword : (wordBytes v).length = 4 := rfl
  have habove : (b.toList.drop (4 * k.val + 4)).length = 12 - 4 * k.val := by simp
  rw [writeBufferWord, bufferOf_get, dif_pos (by simp only [List.length_append]; omega)]
  split
  · rename_i hj
    rw [List.getElem_append_left (by simp only [List.length_append]; omega), List.getElem_append_right (by omega),
      wordBytes_getElem]
    congr 2
    omega
  · rename_i hj
    by_cases hlow : j.val < 4 * k.val
    · rw [List.getElem_append_left (by simp only [List.length_append]; omega), List.getElem_append_left (by omega)]
      simp
    · rw [List.getElem_append_right (by simp only [List.length_append]; omega)]
      simp only [List.getElem_drop, List.length_append, hbelow, hword, Vector.getElem_toList, Fin.getElem_fin]
      congr 1
      omega

theorem bufferWord_eq (b : Vector Byte 16) (k : Fin 4) :
    bufferWord b k = b[4 * k.val] ++ b[4 * k.val + 1] ++ b[4 * k.val + 2] ++ b[4 * k.val + 3] := by
  have byte (i : Nat) (hi : i < 16) : byteAt b.toList i = b[i] := by simp [byteAt, hi]
  simp only [bufferWord]
  rw [byte, byte, byte, byte]

theorem word_of_bytes (v : Word) :
    v.extractLsb' 24 8 ++ v.extractLsb' 16 8 ++ v.extractLsb' 8 8 ++ v.extractLsb' 0 8 = v := by
  rw [BitVec.extractLsb'_append_extractLsb'_eq_extractLsb' (by rfl),
    BitVec.extractLsb'_append_extractLsb'_eq_extractLsb' (by rfl),
    BitVec.extractLsb'_append_extractLsb'_eq_extractLsb' (by rfl)]
  exact BitVec.extractLsb'_eq_self

theorem bufferWord_writeBufferWord (b : Vector Byte 16) (k j : Fin 4) (v : Word) :
    bufferWord (writeBufferWord b k v) j = if j = k then v else bufferWord b j := by
  have byte (i : Nat) (hi : i < 4) : (writeBufferWord b k v)[4 * j.val + i] =
      if j = k then v.extractLsb' (24 - 8 * i) 8 else b[4 * j.val + i] := by
    refine (writeBufferWord_get b k v ⟨4 * j.val + i, by omega⟩).trans ?_
    rw [show (4 * j.val + i) / 4 = j.val by omega, show (4 * j.val + i) % 4 = i by omega]
    simp only [Fin.ext_iff, Fin.getElem_fin]
  have byte0 : (writeBufferWord b k v)[4 * j.val] = if j = k then v.extractLsb' 24 8 else b[4 * j.val] := byte 0 (by decide)
  rw [bufferWord_eq, bufferWord_eq, byte0, byte 1 (by decide), byte 2 (by decide), byte 3 (by decide)]
  split
  · exact word_of_bytes v
  · rfl

/-! ## Registers read back -/

section
variable {s : State} {v : Word}

theorem State.writeConfigA_readsBack {p : PortId} (hl : (s.port p).link = .off) (h : (s.port p).config.withA v ≠ none) :
    (s.writeConfigA p v).readReg (.port p .configA) = v &&& 0xFF01F7F7#32 := by
  obtain ⟨c, hc⟩ := Option.ne_none_iff_exists'.1 h
  rw [State.writeConfigA_eq, hc, State.takeConfig_of_off hl, State.readReg, State.withAnswer_port, State.setPort_port_self]
  exact PortConfig.wordA_of_withA hc

theorem State.writeConfigB_readsBack {p : PortId} (hl : (s.port p).link = .off) (h : (s.port p).config.withB v ≠ none) :
    (s.writeConfigB p v).readReg (.port p .configB) = v &&& 0x00FF00FF#32 := by
  obtain ⟨c, hc⟩ := Option.ne_none_iff_exists'.1 h
  rw [State.writeConfigB_eq, hc, State.takeConfig_of_off hl, State.readReg, State.withAnswer_port, State.setPort_port_self]
  exact PortConfig.wordB_of_withB hc

theorem State.setWindow_window_self (s : State) (e : EntryId) (w : WindowEntry) : (s.setWindow e w).window e = w := by
  rw [State.setWindow_window, if_pos rfl]

theorem State.writeWindowControl_readsBack {e : EntryId}
    (h : (s.window e).enable = false ∧ ((s.window e).withControl v).acceptable = true ∨
      (s.window e).enable = true ∧ (s.window e).withControl v = (s.window e).disabled) :
    (s.writeWindowControl e v).readReg (.windowControl e) = v &&& 0x00031F33#32 := by
  rw [State.writeWindowControl_of_taken h, State.readReg, State.withAnswer_window, State.setWindow_window_self]
  exact WindowEntry.controlWord_withControl _ v

theorem State.writeWindowBase_readsBack {e : EntryId} (h : (s.window e).enable = false) :
    (s.writeWindowBase e v).readReg (.windowBase e) = v &&& 0xFFFFF000#32 := by
  rw [State.writeWindowBase_of_disabled h, State.readReg, State.withAnswer_window, State.setWindow_window_self]
  exact windowBase_masked v

theorem State.writeWindowRemote_readsBack {e : EntryId} (h : (s.window e).enable = false) :
    (s.writeWindowRemote e v).readReg (.windowRemote e) = v &&& 0xFFFFFFF0#32 := by
  rw [State.writeWindowRemote_of_disabled h, State.readReg, State.withAnswer_window, State.setWindow_window_self]
  exact windowRemote_masked v

theorem State.writeDiscardTime_readsBack (h : v.extractLsb' 0 8 ≠ 0) :
    (s.writeDiscardTime v).readReg .discardTime = v &&& 0x000000FF#32 := by
  rw [State.writeDiscardTime_of_taken h]
  exact discardTime_masked v

theorem State.writeInterruptControl_readsBack (h1 : 1 ≤ (v.extractLsb' 8 7).toNat) (h64 : (v.extractLsb' 8 7).toNat ≤ 64) :
    (s.writeInterruptControl v).readReg .interruptControl = v &&& 0x00FF7F01#32 := by
  rw [State.writeInterruptControl_of_taken h1 h64]
  exact s.events.controlWord_written v

theorem State.writeRequest_request {n : SlotId} (h : (s.request n).state = .idle) (f : RequestSlot → RequestSlot) :
    (s.writeRequest n f).request n = f (s.request n) := by
  rw [State.writeRequest_of_idle h, State.withAnswer_request, State.setRequest_request_self]

theorem State.writeRequestControl_readsBack {n : SlotId} (h : (s.request n).state = .idle) :
    (s.writeRequestControl n v).readReg (.requestControl n) = v &&& 0x00031F13#32 := by
  rw [State.writeRequestControl, State.readReg, State.writeRequest_request h]
  exact RequestSlot.controlWord_withControl _ v

theorem State.writeRequestRemote_readsBack {n : SlotId} (h : (s.request n).state = .idle) :
    (s.writeRequestRemote n v).readReg (.requestRemote n) = v &&& 0xFFFFFFFF#32 := by
  rw [State.writeRequestRemote, State.readReg, State.writeRequest_request h]
  exact BitVec.and_allOnes.symm

theorem State.writeRequestData_readsBack {n : SlotId} (h : (s.request n).state = .idle) (k : Fin 4) :
    (s.writeRequestData n k v).readReg (.requestData n k) = v &&& 0xFFFFFFFF#32 := by
  rw [State.writeRequestData, State.readReg, State.writeRequest_request h, bufferWord_writeBufferWord, if_pos rfl]
  exact BitVec.and_allOnes.symm

end

/-- What the statement asks of a control word is what the write is judged by (R105, R106). -/
theorem WindowEntry.taken_iff (w x : WindowEntry) :
    (w.enable = false ∧ x.sizeCode.toNat ≤ 16 ∧ (x.enable = true → x.baseAligned = true) ∨
        w.enable = true ∧ x = { w with enable := false }) ↔
      (w.enable = false ∧ x.acceptable = true ∨ w.enable = true ∧ x = w.disabled) := by
  have hacc : x.acceptable = true ↔ x.sizeCode.toNat ≤ 16 ∧ (x.enable = true → x.baseAligned = true) := by
    unfold WindowEntry.acceptable
    cases x.enable <;> simp
  rw [hacc]
  rfl

/-- Settles O26: each row presents the write of its register, and the word that stands is the word written under its mask. -/
theorem settingRegistersRoundTrip : Obligations.SettingRegistersRoundTrip := by
  refine ⟨fun c h => ⟨h.withA_wordA, h.withB_wordB⟩, fun _ _ _ => PortConfig.wordA_of_withA,
    fun _ _ _ => PortConfig.wordB_of_withB, WindowEntry.controlWord_withControl, RequestSlot.controlWord_withControl,
    bufferWord_writeBufferWord, fun s p e n k v hr => ?_⟩
  dsimp only
  have row {c : Instr} {act : State → State} {r : Reg} {mask : Word} (hc : exec c s = .next (s.present true act))
      (h : (act s).readReg r = v &&& mask) : ∃ t, exec c s = .next t ∧ t.readReg r = v &&& mask :=
    ⟨_, hc.trans (congrArg _ (State.present_of_ready hr rfl act)), h⟩
  refine ⟨fun hoff => ⟨fun h => row rfl (State.writeConfigA_readsBack hoff h),
      fun h => row rfl (State.writeConfigB_readsBack hoff h)⟩,
    ⟨fun h => row rfl (State.writeWindowControl_readsBack ((WindowEntry.taken_iff _ _).1 h)),
      fun hd => ⟨row rfl (State.writeWindowBase_readsBack hd), row rfl (State.writeWindowRemote_readsBack hd)⟩⟩,
    fun h => row rfl (State.writeDiscardTime_readsBack h), row rfl (classMask_masked v),
    fun h1 h64 => row rfl (State.writeInterruptControl_readsBack h1 h64),
    fun hi => ⟨row rfl (State.writeRequestControl_readsBack hi), row rfl (State.writeRequestRemote_readsBack hi),
      row rfl (State.writeRequestData_readsBack hi k)⟩⟩

end Sys2Proof.Machine
end

section
/-! PROOF. O33 and O36: RESUME and ACK_ATTENTION, and the port commands that the port's state does not allow. -/

namespace Sys2Proof.Machine

/-! ## The rows -/

theorem exec_resume {s : State} (hr : s.Ready) (p : PortId) :
    exec (.resume p) s = .next ((s.resumePort p).withAnswer .ack) :=
  congrArg Host.Outcome.next (State.presentCommand_of_ready hr _)

theorem exec_ackAttention {s : State} (hr : s.Ready) (p : PortId) :
    exec (.ackAttention p) s = .next ((s.ackAttention p).withAnswer .ack) :=
  congrArg Host.Outcome.next (State.presentCommand_of_ready hr _)

theorem exec_portCommandUnknown {s : State} (hr : s.Ready) (p : PortId) (v : Word) :
    exec (.portCommandUnknown p v) s = .next ((s.portCommand p (commandCode v)).withAnswer .ack) :=
  congrArg Host.Outcome.next (State.presentCommand_of_ready hr _)

/-! ## Commands that are IGNORED -/

section
variable {s : State} {p : PortId}

theorem State.portIgnored_eq (s : State) (p : PortId) :
    s.portIgnored p = s.setPort p { s.port p with commandResult := .ignored } := rfl

theorem State.enablePort_of_not_off (h : (s.port p).link ≠ .off) : s.enablePort p = s.portIgnored p := if_neg h

theorem State.disablePort_of_off (h : (s.port p).link = .off) :
    s.disablePort p = s.setPort p { s.port p with commandResult := .done } := if_pos h

/-- RESUME needs a link that is not OFF and a HELD queue (R89). -/
theorem State.resumePort_of_not_held (h : (s.port p).link = .off ∨ (s.port p).queue = .run) :
    s.resumePort p = s.portIgnored p := by
  refine if_neg fun ⟨hl, hq⟩ => ?_
  obtain h | h := h
  · exact hl h
  · cases h.symm.trans hq

theorem State.flushPort_of_off (h : (s.port p).link = .off) : s.flushPort p = s.portIgnored p := if_pos h

theorem State.restartPort_of_not_lost (h : (s.port p).link ≠ .lost) : s.restartPort p = s.portIgnored p := if_neg h

theorem State.ackAttention_of_off (h : (s.port p).link = .off) : s.ackAttention p = s.portIgnored p := if_pos h

/-- Codes 1 to 6 name the port commands; every other code is IGNORED (R87, Table 11-7). -/
theorem State.portCommand_of_unnamed {code : BitVec 4} (h : code.toNat = 0 ∨ 6 < code.toNat) :
    s.portCommand p code = s.portIgnored p := by
  have unnamed (n : BitVec 4) (h1 : 1 ≤ n.toNat) (h6 : n.toNat ≤ 6) : code ≠ n := by
    rintro rfl
    omega
  rw [State.portCommand, if_neg (unnamed 1 (by decide) (by decide)), if_neg (unnamed 2 (by decide) (by decide)),
    if_neg (unnamed 3 (by decide) (by decide)), if_neg (unnamed 4 (by decide) (by decide)),
    if_neg (unnamed 5 (by decide) (by decide)), if_neg (unnamed 6 (by decide) (by decide))]

end

theorem commandCode_toNat (v : Word) : (commandCode v).toNat = v.toNat % 16 := by
  simp [commandCode]

/-- Settles O36, by the command. -/
theorem portCommandsIgnored : Obligations.PortCommandsIgnored := by
  intro s p v hr
  dsimp only
  rw [exec_enable hr, exec_disable hr, exec_resume hr, exec_flush hr, exec_restart hr, exec_ackAttention hr,
    exec_portCommandUnknown hr, ← State.portIgnored_eq]
  refine ⟨fun h => ?_, fun h => ?_, fun h => ?_, fun h => ?_, fun h => ?_, fun h => ?_, fun h => ?_⟩
  · rw [State.enablePort_of_not_off h]
  · rw [State.disablePort_of_off h]
  · rw [State.resumePort_of_not_held h]
  · rw [State.flushPort_of_off h]
  · rw [State.restartPort_of_not_lost h]
  · rw [State.ackAttention_of_off h]
  · rw [State.portCommand_of_unnamed (by rwa [commandCode_toNat])]

/-! ## RESUME and ACK_ATTENTION -/

section
variable {s : State} {p : PortId}

/-- The hold is released, and the arbiter chooses (R89). -/
theorem State.resumePort_of_held (hl : (s.port p).link ≠ .off) (hq : (s.port p).queue = .held) : s.resumePort p =
    (s.setPort p { s.port p with queue := .run, commandResult := .done }).arbitrate p := if_pos ⟨hl, hq⟩

/-- The latch is cleared whether it was set or not (R79, R93). -/
theorem State.ackAttention_of_not_off (h : (s.port p).link ≠ .off) : s.ackAttention p = s.setPort p { s.port p with
    station := { (s.port p).station with attention := false }, commandResult := .done } := if_neg h

end

/-- Settles O33, by the link state and the queue state. -/
theorem resumeAndAckAttentionAct : Obligations.ResumeAndAckAttentionAct := by
  intro s p hr
  dsimp only
  rw [exec_resume hr, exec_ackAttention hr, ← State.portIgnored_eq]
  refine ⟨fun hl hq => ?_, fun hq => ?_, fun hl => ?_, fun hl => ?_⟩
  · rw [State.resumePort_of_held hl hq]
  · rw [State.resumePort_of_not_held (.inr hq)]
  · rw [State.ackAttention_of_not_off hl]
  · rw [State.ackAttention_of_off hl]

end Sys2Proof.Machine
end

section
/-! PROOF. What happens to the event queue: each of its own operations keeps its laws, and the happenings of the lines and of time,
the commands of ports and slots and the accesses to windows only offer records to it (`EventQueue.Offered`). -/

namespace Sys2Proof.Machine

/-! ## What happens to an event queue -/

/-- The line is judged last, so the other laws are all that a judged queue needs (R154). -/
theorem EventQueue.judged_sound {e : EventQueue} (bound : e.records.length ≤ 64)
    (holdoff : e.holdoff = .stopped ↔ e.records = []) (threshold : 1 ≤ e.threshold.toNat ∧ e.threshold.toNat ≤ 64) :
    e.judged.Sound := ⟨bound, holdoff, rfl, threshold⟩

theorem EventQueue.holdoffStart_ne_stopped (e : EventQueue) (now : Nat) : e.holdoffStart now ≠ .stopped := by
  unfold EventQueue.holdoffStart
  split <;> exact Holdoff.noConfusion

/-- A record is written only where there is room, and the first one starts the holdoff timer (R150, R153). -/
theorem EventQueue.Sound.offer {e : EventQueue} (h : e.Sound) (now : Nat) (o : Offer) : (e.offer now o).Sound := by
  obtain ⟨-, eq⟩ | ⟨-, -, eq⟩ | ⟨-, room, eq⟩ := e.offer_cases now o <;> rw [eq]
  · exact h
  · exact ⟨h.bound, h.holdoff, h.line, h.threshold⟩
  · refine EventQueue.judged_sound (by simpa using room) ?_ h.threshold
    have runs : (if e.records.isEmpty then e.holdoffStart now else e.holdoff) ≠ .stopped := by
      split
      · exact e.holdoffStart_ne_stopped now
      · rename_i filled
        exact fun stopped => filled (List.isEmpty_iff.2 (h.holdoff.1 stopped))
    simpa using runs

/-- The holdoff timer restarts with a POP that leaves records, and stops with the last of them (R151, R153). -/
theorem EventQueue.Sound.pop {e : EventQueue} (h : e.Sound) (now : Nat) : (e.pop now).Sound := by
  have bound := h.bound
  unfold EventQueue.pop
  split
  · exact ⟨h.bound, h.holdoff, h.line, h.threshold⟩
  · rename_i head rest records
    rw [records, List.length_cons] at bound
    refine EventQueue.judged_sound (Nat.le_of_succ_le bound) ?_ h.threshold
    cases rest with
    | nil => exact iff_of_true rfl rfl
    | cons next others => exact iff_of_false (e.holdoffStart_ne_stopped now) (List.cons_ne_nil _ _)

/-- A timer that has run out is not stopped (R153). -/
theorem EventQueue.Sound.expireHoldoff {e : EventQueue} (h : e.Sound) : e.expireHoldoff.Sound := by
  have stopped := h.holdoff
  unfold EventQueue.expireHoldoff
  split
  · rename_i running
    rw [running] at stopped
    exact EventQueue.judged_sound h.bound (iff_of_false Holdoff.noConfusion (mt stopped.2 Holdoff.noConfusion)) h.threshold
  · exact h

/-- An empty queue below a threshold of at least 1 does not assert the line (R154). -/
theorem EventQueue.Sound.resetWith {e : EventQueue} (h : e.Sound) :
    (EventQueue.resetWith e.mask e.irqEnable e.threshold e.holdoffSteps).Sound where
  bound := Nat.zero_le _
  holdoff := iff_of_true rfl rfl
  line := by
    have below : ¬ e.threshold.toNat ≤ 0 := Nat.not_le.2 h.threshold.1
    simp [EventQueue.resetWith, EventQueue.lineCondition, below]
  threshold := h.threshold

/-! ## Records offered -/

/-- `e'` is `e` once some records have been offered to it, one after the other. -/
abbrev EventQueue.Offered : EventQueue → EventQueue → Prop :=
  Relation.ReflTransGen fun e e' => ∃ now o, e' = e.offer now o

theorem EventQueue.Offered.sound {e e' : EventQueue} (m : e.Offered e') (h : e.Sound) : e'.Sound := by
  induction m with
  | refl => exact h
  | tail _ last ih =>
    obtain ⟨now, o, rfl⟩ := last
    exact ih.offer now o

theorem EventQueue.offered_offer (e : EventQueue) (now : Nat) (o : Offer) : e.Offered (e.offer now o) :=
  .single ⟨now, o, rfl⟩

theorem EventQueue.offered_offerAll (now : Nat) (os : List Offer) (e : EventQueue) : e.Offered (e.offerAll now os) := by
  induction os generalizing e with
  | nil => exact .refl
  | cons o os ih => exact (e.offered_offer now o).trans (ih _)

/-- What leaves the events alone offers nothing. -/
theorem State.offered_of_eq {s t : State} (h : t.events = s.events) : s.events.Offered t.events := by rw [h]

/-- What leaves the events alone may go before what offers. -/
theorem State.offered_from {s t u : State} (h : t.events.Offered u.events) (e : t.events = s.events) :
    s.events.Offered u.events := e ▸ h

theorem State.offered_offer (s : State) (o : Offer) : s.events.Offered (s.offer o).events := s.events.offered_offer s.now o

/-! ### Outcomes of records -/

theorem State.offered_settle (s : State) (p : PortId) (r : Record) (l : Leaving) :
    s.events.Offered (s.settle p r l).events := by
  rw [State.settle_events]
  exact EventQueue.offered_offerAll _ _ _

theorem State.offered_settleAll (p : PortId) (c : Cause) (rs : List Record) (s : State) :
    s.events.Offered (s.settleAll p c rs).events := by
  induction rs generalizing s with
  | nil => exact .refl
  | cons r rs ih => exact (s.offered_settle p r _).trans (ih _)

theorem State.offered_completeRequest (s : State) (n : SlotId) (c : Cause) (b : Vector Byte 16) :
    s.events.Offered (s.completeRequest n c b).events := by
  rw [State.completeRequest_events]
  split
  · exact s.events.offered_offer s.now _
  · exact .refl

theorem State.offered_offerFlushed (s : State) (p : PortId) (rs : List Record) :
    s.events.Offered (s.offerFlushed p rs).events := by
  unfold State.offerFlushed
  split
  · exact .refl
  · exact s.offered_offer _

theorem State.offered_hold (s : State) (p : PortId) : s.events.Offered (s.hold p).events :=
  State.offered_of_eq (s.hold_spec p).2.1

theorem State.offered_loseLink (s : State) (p : PortId) (c : Cause) : s.events.Offered (s.loseLink p c).events :=
  (s.loseLink_spec p c).2.1 ▸ s.events.offered_offer s.now _

/-! ### The sequencer -/

theorem State.offered_exhaust (s : State) (p : PortId) (w : Sent) (c : Cause) : s.events.Offered (s.exhaust p w c).events :=
  (State.offered_settle (s.modPort p Port.dropOldest) p w.record _).trans (State.offered_loseLink _ p c)

theorem State.offered_retryOldest (s : State) (p : PortId) : s.events.Offered (s.retryOldest p).events := by
  obtain ⟨-, e⟩ | ⟨w, rest, -, ⟨-, e⟩ | ⟨-, e⟩⟩ := s.retryOldest_cases p
  · exact State.offered_of_eq (congrArg State.events e)
  · exact e ▸ .refl
  · exact e ▸ s.offered_exhaust p w _

theorem State.offered_busyRefusal (s : State) (p : PortId) : s.events.Offered (s.busyRefusal p).events := by
  obtain ⟨-, e⟩ | ⟨w, rest, -, ⟨-, e⟩ | ⟨-, e⟩⟩ := s.busyRefusal_cases p
  · exact State.offered_of_eq (congrArg State.events e)
  · exact e ▸ .refl
  · exact e ▸ s.offered_exhaust p w _

theorem State.offered_complete (s : State) (p : PortId) (w : Sent) (l : Leaving) :
    s.events.Offered (s.complete p w l).events := by
  have settled := State.offered_settle (s.modPort p Port.dropOldest) p w.record l
  unfold State.complete
  dsimp only
  split
  · exact settled.trans (State.offered_hold _ p)
  · exact settled

theorem State.offered_outOfOrder (s : State) (p : PortId) : s.events.Offered (s.outOfOrder p).events := by
  unfold State.outOfOrder
  split
  · exact (s.stale p).offered_retryOldest p
  · exact .refl

theorem State.offered_respond (s : State) (p : PortId) (r : Seq) (act : Sent → State)
    (h : ∀ w, s.events.Offered (act w).events) : s.events.Offered (s.respond p r act).events := by
  obtain e | ⟨-, -, -, -, e⟩ | ⟨-, w, rest, -, -, e⟩ := s.respond_cases p r act <;> rw [e]
  · exact .refl
  · exact s.offered_outOfOrder p
  · exact h w

theorem State.offered_ackResponse (s : State) (p : PortId) (r : Seq) : s.events.Offered (s.ackResponse p r).events := by
  refine s.offered_respond p r _ fun w => ?_
  split
  · exact s.offered_complete p w _
  · exact s.offered_loseLink p _

theorem State.offered_dataResponse (s : State) (p : PortId) (r : Seq) (d : List Byte) :
    s.events.Offered (s.dataResponse p r d).events := by
  refine s.offered_respond p r _ fun w => ?_
  split
  · split
    · exact s.offered_complete p w _
    · exact s.offered_loseLink p _
  · exact s.offered_loseLink p _

theorem State.offered_sequenceRefusal (s : State) (p : PortId) (e : Seq) :
    s.events.Offered (s.sequenceRefusal p e).events := by
  unfold State.sequenceRefusal
  dsimp only
  repeat' split
  · exact .refl
  · exact .refl
  · exact s.offered_retryOldest p
  · exact s.offered_loseLink p _

theorem State.offered_rejectResponse (s : State) (p : PortId) (r : Seq) (c : RejectCause) (e : Seq) :
    s.events.Offered (s.rejectResponse p r c e).events := by
  unfold State.rejectResponse
  cases c with
  | sequence => exact s.offered_sequenceRefusal p e
  | busy =>
    refine s.offered_respond p r _ fun w => ?_
    split
    · exact .refl
    · exact s.offered_busyRefusal p
  | address => exact s.offered_respond p r _ fun w => s.offered_complete p w _
  | denied => exact s.offered_respond p r _ fun w => s.offered_complete p w _

/-! ### Frames of a station -/

theorem State.offered_identFrame (s : State) (p : PortId) (r : Seq) (c : BitVec 16) (v w : Byte) :
    s.events.Offered (s.identFrame p r c v w).events := by
  unfold State.identFrame
  dsimp only
  split
  · split
    · exact (s.offered_offer _).trans (State.offered_offer _ _)
    · exact State.offered_offer _ _
  · exact .refl

theorem State.offered_takeAttention (s : State) (p : PortId) (flag : Bool) :
    s.events.Offered (s.takeAttention p flag).events := by
  unfold State.takeAttention
  split
  · exact State.offered_offer _ _
  · exact .refl

theorem State.offered_deliver (s : State) (p : PortId) (f : StationFrame) : s.events.Offered (s.deliver p f).events := by
  unfold State.deliver
  dsimp only
  refine .trans ?_ (State.offered_takeAttention _ p _)
  split
  · exact s.offered_ackResponse p _
  · exact s.offered_dataResponse p _ _
  · exact s.offered_rejectResponse p _ _ _
  · exact s.offered_identFrame p _ _ _ _

theorem State.offered_lineByte (s : State) (p : PortId) (b : Byte) : s.events.Offered (s.lineByte p b).events := by
  unfold State.lineByte
  dsimp only
  split
  · split
    · exact .refl
    · rename_i got _
      cases got with
      | malformed => exact .refl
      | crcError => exact .refl
      | good f => exact State.offered_from (State.offered_deliver _ p f) rfl
  · exact .refl

theorem State.offered_lineBytes (p : PortId) (bs : List Byte) (s : State) : s.events.Offered (s.lineBytes p bs).events := by
  induction bs generalizing s with
  | nil => exact .refl
  | cons b bs ih => exact (s.offered_lineByte p b).trans (ih _)

theorem State.offered_stationFrame (s : State) (p : PortId) (f : StationFrame) :
    s.events.Offered (s.stationFrame p f).events := by
  obtain ⟨-, e⟩ | ⟨-, -, e⟩ | ⟨-, -, e⟩ := s.stationFrame_cases p f
  · exact State.offered_of_eq (congrArg State.events e)
  · exact e ▸ (s.modPort p Port.toHunt).offered_deliver p f
  · exact e ▸ .refl

/-! ### Carrier and timers -/

theorem State.offered_loseCarrier (s : State) (p : PortId) : s.events.Offered (s.loseCarrier p).events := by
  unfold State.loseCarrier
  dsimp only
  split
  · split
    · exact State.offered_from (State.offered_loseLink _ p _) rfl
    · exact .refl
  · exact .refl

theorem State.offered_expireResponseTimer (s : State) (p : PortId) :
    s.events.Offered (s.expireResponseTimer p).events := by
  unfold State.expireResponseTimer
  split
  · exact .refl
  · exact State.offered_from (State.offered_retryOldest _ p) rfl

theorem State.offered_expireDiscardTimer (s : State) (n : SlotId) : s.events.Offered (s.expireDiscardTimer n).events := by
  unfold State.expireDiscardTimer
  split
  · exact .refl
  · split
    · exact .refl
    · exact State.offered_offer _ _
    · exact State.offered_offer _ _

theorem State.expireDiscardTimer_windows (s : State) (n : SlotId) : (s.expireDiscardTimer n).windows = s.windows := by
  unfold State.expireDiscardTimer
  split
  · rfl
  · split <;> rfl

theorem State.regainCarrier_events (s : State) (p : PortId) : (s.regainCarrier p).events = s.events := by
  unfold State.regainCarrier
  split <;> rfl

theorem State.endTransmission_events (s : State) (p : PortId) : (s.endTransmission p).events = s.events := by
  unfold State.endTransmission
  split <;> rfl

theorem State.endBackoff_events (s : State) (p : PortId) : (s.endBackoff p).events = s.events := by
  unfold State.endBackoff
  split <;> rfl

theorem State.expireResponseWait_events (s : State) (p : PortId) : (s.expireResponseWait p).events = s.events := by
  unfold State.expireResponseWait
  split <;> rfl

theorem State.expireProbeInterval_events (s : State) (p : PortId) : (s.expireProbeInterval p).events = s.events := by
  unfold State.expireProbeInterval
  split <;> rfl

theorem State.expireReprobeInterval_events (s : State) (p : PortId) : (s.expireReprobeInterval p).events = s.events := by
  unfold State.expireReprobeInterval
  split <;> rfl

/-! ### Port and slot commands -/

theorem State.enablePort_events (s : State) (p : PortId) : (s.enablePort p).events = s.events := by
  unfold State.enablePort
  split <;> rfl

theorem State.resumePort_events (s : State) (p : PortId) : (s.resumePort p).events = s.events := by
  unfold State.resumePort
  split <;> rfl

theorem State.restartPort_events (s : State) (p : PortId) : (s.restartPort p).events = s.events := by
  unfold State.restartPort
  split <;> rfl

theorem State.ackAttention_events (s : State) (p : PortId) : (s.ackAttention p).events = s.events := by
  unfold State.ackAttention
  split <;> rfl

/-- Records that are removed from a port have their outcome offered, and then FLUSHED (R90, R95). -/
theorem State.offered_removed (s : State) (p : PortId) (c : Cause) (rs : List Record) :
    s.events.Offered ((s.settleAll p c rs).offerFlushed p rs).events :=
  (State.offered_settleAll p c rs s).trans (State.offered_offerFlushed _ p rs)

theorem State.offered_disablePort (s : State) (p : PortId) : s.events.Offered (s.disablePort p).events := by
  unfold State.disablePort
  split
  · exact .refl
  · exact (s.modPort p Port.tornDown).offered_removed p _ _

theorem State.offered_flushPort (s : State) (p : PortId) : s.events.Offered (s.flushPort p).events := by
  unfold State.flushPort
  split
  · exact .refl
  · exact State.offered_removed (s.modPort p fun q => q.flushLanes.withResult .done) p _ _

theorem State.offered_portCommand (s : State) (p : PortId) (code : BitVec 4) :
    s.events.Offered (s.portCommand p code).events := by
  unfold State.portCommand
  repeat' split
  · exact State.offered_of_eq (s.enablePort_events p)
  · exact s.offered_disablePort p
  · exact State.offered_of_eq (s.resumePort_events p)
  · exact s.offered_flushPort p
  · exact State.offered_of_eq (s.restartPort_events p)
  · exact State.offered_of_eq (s.ackAttention_events p)
  · exact .refl

theorem State.admitRequest_events (s : State) (n : SlotId) : (s.admitRequest n).events = s.events := by
  unfold State.admitRequest
  dsimp only
  split <;> rfl

theorem State.offered_submitRequest (s : State) (n : SlotId) : s.events.Offered (s.submitRequest n).events := by
  unfold State.submitRequest
  dsimp only
  split
  · split
    · exact State.offered_of_eq (State.admitRequest_events _ n)
    · exact State.offered_from (State.offered_completeRequest _ n _ _) rfl
  · exact .refl

theorem State.offered_cancelRequest (s : State) (n : SlotId) : s.events.Offered (s.cancelRequest n).events := by
  unfold State.cancelRequest
  dsimp only
  split
  · exact State.offered_from (State.offered_completeRequest (State.modPort _ _ _) n _ _) rfl
  · exact .refl

theorem State.releaseRequest_events (s : State) (n : SlotId) : (s.releaseRequest n).events = s.events := by
  unfold State.releaseRequest
  dsimp only
  split <;> rfl

theorem State.offered_slotCommand (s : State) (n : SlotId) (code : BitVec 4) :
    s.events.Offered (s.slotCommand n code).events := by
  unfold State.slotCommand
  repeat' split
  · exact s.offered_submitRequest n
  · exact s.offered_cancelRequest n
  · exact State.offered_of_eq (s.releaseRequest_events n)
  · exact .refl

/-! ### Accesses to windows -/

theorem State.ownedWrite_events (s : State) (h : Hit) (d : WriteData) : (s.ownedWrite h d).events = s.events := by
  unfold State.ownedWrite
  split
  · rfl
  · split <;> rfl

theorem State.newRead_events (s : State) (k : ReadKey) (h : Hit) : (s.newRead k h).events = s.events := by
  unfold State.newRead
  split
  · rfl
  · split
    · rfl
    · split <;> rfl

theorem State.ownedRead_events (s : State) (k : ReadKey) (h : Hit) : (s.ownedRead k h).events = s.events := by
  have afresh (n : SlotId) : ((s.setReadSlot n none).newRead k h).events = s.events := State.newRead_events _ k h
  unfold State.ownedRead
  split
  · rfl
  · unfold State.decideRead
    split
    · exact s.newRead_events k h
    · split
      · rfl
      · split
        · rfl
        · exact afresh _
      · split
        · rfl
        · exact afresh _

theorem State.offered_loseMirror (s : State) (p : PortId) : s.events.Offered (s.loseMirror p).events := by
  unfold State.loseMirror
  dsimp only
  split
  · exact State.offered_offer _ _
  · exact .refl

theorem State.offered_mirroredWrite (s : State) (m : MasterId) (addr : Word) (h : Hit) (d : WriteData) :
    s.events.Offered (s.mirroredWrite m addr h d).events := by
  obtain ⟨-, e⟩ | ⟨-, -, e⟩ | ⟨-, -, e⟩ | ⟨-, -, -, e⟩ := s.mirroredWrite_cases m addr h d <;> rw [e]
  · exact .refl
  · exact s.offered_loseMirror h.port
  · exact .refl
  · exact .refl

theorem State.commitMirror_events (s : State) (p : PortId) : (s.commitMirror p).events = s.events := by
  unfold State.commitMirror
  dsimp only
  split <;> rfl

end Sys2Proof.Machine
end

section
/-! PROOF. O9: every step keeps the laws of the event queue and of the window entries. What only offers records and reaches no
window keeps both; there remain the registers of the event queue and of the windows, the timers of the queue, and the two
resets. -/

namespace Sys2Proof.Machine

/-! ## The laws that a happening keeps -/

/-- The laws of the event queue and those of the window entries, where they hold in `s`, hold in `t`. -/
structure State.SharedKept (s t : State) : Prop where
  events : s.events.Sound → t.events.Sound
  windows : (∀ e, (s.window e).Sound) → ∀ e, (t.window e).Sound

/-- What offers records alone, and reaches no window, keeps both. -/
theorem State.sharedKept_of_offered {s t : State} (he : s.events.Offered t.events) (hw : t.windows = s.windows) :
    State.SharedKept s t where
  events := he.sound
  windows h e := by rw [State.window, hw]; exact h e

/-- What leaves the events and the windows alone keeps both. -/
theorem State.sharedKept_of_eq {s t : State} (he : t.events = s.events) (hw : t.windows = s.windows) :
    State.SharedKept s t := State.sharedKept_of_offered (State.offered_of_eq he) hw

/-- A happening of one port reaches no window, so it keeps both where it only offers records. -/
theorem State.Within.sharedKept {p : PortId} {s t : State} (h : State.Within p s t) (he : s.events.Offered t.events) :
    State.SharedKept s t := State.sharedKept_of_offered he (State.shell_windows h.shell)

theorem State.SharedKept.withAnswer {s t : State} (h : State.SharedKept s t) (a : Answer) :
    State.SharedKept s (t.withAnswer a) := ⟨h.events, h.windows⟩

theorem State.sharedKept_withAnswer (s : State) (a : Answer) : State.SharedKept s (s.withAnswer a) :=
  State.sharedKept_of_eq rfl rfl

theorem State.sharedKept_present (s : State) (b : Bool) {act : State → State} (h : State.SharedKept s (act s)) :
    State.SharedKept s (s.present b act) := by
  obtain ⟨-, -, e⟩ | ⟨a, -, e⟩ := s.present_cases b act <;> rw [e]
  · exact h
  · exact s.sharedKept_withAnswer a

theorem State.sharedKept_presentCommand (s : State) {act : State → State} (h : State.SharedKept s (act s)) :
    State.SharedKept s (s.presentCommand act) := s.sharedKept_present true (h.withAnswer .ack)

/-! ### Event registers -/

/-- What reaches the event queue alone keeps the laws of the windows. -/
theorem State.sharedKept_setEvents (s : State) {e : EventQueue} (h : s.events.Sound → e.Sound) :
    State.SharedKept s (s.setEvents e) := ⟨h, id⟩

theorem State.sharedKept_popEvent (s : State) : State.SharedKept s s.popEvent := s.sharedKept_setEvents fun h => h.pop s.now

theorem State.sharedKept_eventCommand (s : State) (code : BitVec 4) : State.SharedKept s (s.eventCommand code) := by
  unfold State.eventCommand
  split
  · exact s.sharedKept_popEvent
  · exact s.sharedKept_setEvents fun h => ⟨h.bound, h.holdoff, h.line, h.threshold⟩

theorem State.sharedKept_writeClassMask (s : State) (v : Word) : State.SharedKept s (s.writeClassMask v) := by
  refine (s.sharedKept_setEvents fun h => ?_).withAnswer .ack
  exact ⟨h.bound, h.holdoff, h.line, h.threshold⟩

/-- A threshold out of range is refused, and a control word that is taken has the line judged anew (R154). -/
theorem State.sharedKept_writeInterruptControl (s : State) (v : Word) : State.SharedKept s (s.writeInterruptControl v) := by
  unfold State.writeInterruptControl
  dsimp only
  split
  · exact s.sharedKept_withAnswer .berr
  · refine (s.sharedKept_setEvents fun h => ?_).withAnswer .ack
    refine EventQueue.judged_sound h.bound h.holdoff ?_
    dsimp only
    omega

theorem State.sharedKept_tick (s : State) : State.SharedKept s s.tick where
  events h := by
    unfold State.tick
    dsimp only
    split
    · exact h
    · exact ⟨h.bound, h.holdoff, h.line, h.threshold⟩
  windows := id

/-! ### Window registers -/

/-- A window entry that is replaced by a lawful one. -/
theorem State.sharedKept_setWindow (s : State) (e : EntryId) {w : WindowEntry} (h : (s.window e).Sound → w.Sound)
    (a : Answer) : State.SharedKept s ((s.setWindow e w).withAnswer a) where
  events := id
  windows hs i := by
    rw [State.withAnswer_window, State.setWindow_window]
    split
    · exact h (hs e)
    · exact hs i

/-- Disabling an entry leaves nothing to align (R105). -/
theorem WindowEntry.Sound.disabled {w : WindowEntry} (h : w.Sound) : w.disabled.Sound := ⟨h.sizeCode, Bool.noConfusion⟩

/-- What a control word is judged by (R105). -/
theorem WindowEntry.acceptable_iff (w : WindowEntry) :
    w.acceptable = true ↔ w.sizeCode.toNat ≤ 16 ∧ (w.enable = true → w.baseAligned = true) := by
  unfold WindowEntry.acceptable
  cases w.enable <;> simp

/-- The judgement of a control word is the law of the entry written (R105). -/
theorem WindowEntry.acceptable_iff_sound (w : WindowEntry) : w.acceptable = true ↔ w.Sound :=
  w.acceptable_iff.trans ⟨fun ⟨size, aligned⟩ => ⟨size, aligned⟩, fun h => ⟨h.sizeCode, h.aligned⟩⟩

theorem State.sharedKept_writeWindowControl (s : State) (e : EntryId) (v : Word) :
    State.SharedKept s (s.writeWindowControl e v) := by
  unfold State.writeWindowControl
  dsimp only
  split
  · split
    · rename_i disabling
      exact s.sharedKept_setWindow e (fun h => disabling ▸ h.disabled) _
    · exact s.sharedKept_withAnswer .berr
  · split
    · rename_i accepted
      exact s.sharedKept_setWindow e (fun _ => (WindowEntry.acceptable_iff_sound _).1 accepted) _
    · exact s.sharedKept_withAnswer .berr

/-- The base of a disabled entry need not be aligned (R105). -/
theorem State.sharedKept_writeWindowBase (s : State) (e : EntryId) (v : Word) :
    State.SharedKept s (s.writeWindowBase e v) := by
  unfold State.writeWindowBase
  split
  · exact s.sharedKept_withAnswer .berr
  · rename_i off
    refine s.sharedKept_setWindow e (fun h => ?_) _
    exact ⟨h.sizeCode, fun on => absurd on off⟩

theorem State.sharedKept_writeWindowRemote (s : State) (e : EntryId) (v : Word) :
    State.SharedKept s (s.writeWindowRemote e v) := by
  unfold State.writeWindowRemote
  split
  · exact s.sharedKept_withAnswer .berr
  · refine s.sharedKept_setWindow e (fun h => ?_) _
    exact ⟨h.sizeCode, h.aligned⟩

/-! ### Any register -/

theorem State.sharedKept_writeDiscardTime (s : State) (v : Word) : State.SharedKept s (s.writeDiscardTime v) := by
  unfold State.writeDiscardTime
  dsimp only
  split <;> exact State.sharedKept_of_eq rfl rfl

theorem State.sharedKept_writeRequest (s : State) (n : SlotId) (f : RequestSlot → RequestSlot) :
    State.SharedKept s (s.writeRequest n f) := by
  unfold State.writeRequest
  split <;> exact State.sharedKept_of_eq rfl rfl

theorem State.sharedKept_takeConfig (s : State) (p : PortId) (written : Option PortConfig) :
    State.SharedKept s (s.takeConfig p written) := by
  unfold State.takeConfig
  split
  · exact s.sharedKept_withAnswer .berr
  · split <;> exact State.sharedKept_of_eq rfl rfl

theorem State.sharedKept_writeConfigA (s : State) (p : PortId) (v : Word) : State.SharedKept s (s.writeConfigA p v) :=
  s.writeConfigA_eq p v ▸ s.sharedKept_takeConfig p _

theorem State.sharedKept_writeConfigB (s : State) (p : PortId) (v : Word) : State.SharedKept s (s.writeConfigB p v) :=
  s.writeConfigB_eq p v ▸ s.sharedKept_takeConfig p _

theorem State.sharedKept_globalCommand (s : State) (code : BitVec 4) : State.SharedKept s (s.globalCommand code) := by
  unfold State.globalCommand
  split <;> exact State.sharedKept_of_eq rfl rfl

theorem State.sharedKept_slotCommand (s : State) (n : SlotId) (code : BitVec 4) :
    State.SharedKept s (s.slotCommand n code) :=
  State.sharedKept_of_offered (s.offered_slotCommand n code) (s.slotCommand_windows n code)

theorem State.sharedKept_portCommand (s : State) (p : PortId) (code : BitVec 4) :
    State.SharedKept s (s.portCommand p code) := (s.within_portCommand p code).sharedKept (s.offered_portCommand p code)

theorem State.sharedKept_writeReg (s : State) (r : Reg) (v : Word) : State.SharedKept s (s.writeReg r v) := by
  cases r with
  | globalControl => exact (s.sharedKept_globalCommand _).withAnswer .ack
  | eventControl => exact (s.sharedKept_eventCommand _).withAnswer .ack
  | classMask => exact s.sharedKept_writeClassMask v
  | interruptControl => exact s.sharedKept_writeInterruptControl v
  | discardTime => exact s.sharedKept_writeDiscardTime v
  | windowControl e => exact s.sharedKept_writeWindowControl e v
  | windowBase e => exact s.sharedKept_writeWindowBase e v
  | windowRemote e => exact s.sharedKept_writeWindowRemote e v
  | requestControl n => exact s.sharedKept_writeRequest n (·.withControl v)
  | requestRemote n => exact s.sharedKept_writeRequest n fun q => { q with remote := v }
  | requestData n k => exact s.sharedKept_writeRequest n fun q => { q with buffer := writeBufferWord q.buffer k v }
  | requestCommand n => exact (s.sharedKept_slotCommand n _).withAnswer .ack
  | port p x =>
    cases x with
    | control => exact (s.sharedKept_portCommand p _).withAnswer .ack
    | configA => exact s.sharedKept_writeConfigA p v
    | configB => exact s.sharedKept_writeConfigB p v
    | _ => exact s.sharedKept_withAnswer .ack
  | _ => exact s.sharedKept_withAnswer .ack

theorem State.sharedKept_readAccess (s : State) (r : Reg) : State.SharedKept s (s.readAccess r) := by
  refine State.sharedKept_of_eq ?_ (s.readAccess_windows r)
  cases r <;> rfl

theorem State.sharedKept_registerAccess (s : State) (off : BitVec 10) (a : RegAccess) :
    State.SharedKept s (s.registerAccess off a) := by
  unfold State.registerAccess
  split
  · exact s.sharedKept_withAnswer _
  · split
    · exact s.sharedKept_withAnswer _
    · exact s.sharedKept_readAccess _
  · split
    · exact s.sharedKept_withAnswer _
    · exact s.sharedKept_writeReg _ _

/-! ### Host accesses and resets -/

theorem State.sharedKept_mirroredWrite (s : State) (m : MasterId) (addr : Word) (h : Hit) (d : WriteData) :
    State.SharedKept s (s.mirroredWrite m addr h d) := by
  refine State.sharedKept_of_offered (s.offered_mirroredWrite m addr h d) ?_
  obtain ⟨-, e⟩ | ⟨-, -, e⟩ | ⟨-, -, e⟩ | ⟨-, -, -, e⟩ := s.mirroredWrite_cases m addr h d <;> rw [e]
  · rfl
  · exact (State.shell_windows (s.lineTurn_loseMirror h.port).within.shell :)
  · rfl
  · rfl

theorem State.sharedKept_hostAccess (s : State) (m : MasterId) (addr : Word) (k : AccessKind) :
    State.SharedKept s (s.hostAccess m addr k) := by
  refine s.sharedKept_present _ ?_
  unfold State.windowAccess
  split
  · exact s.sharedKept_registerAccess _ _
  · split
    · exact State.sharedKept_of_eq rfl rfl
    · split
      · exact State.sharedKept_of_eq (s.ownedWrite_events _ _) (s.ownedWrite_windows _ _)
      · exact State.sharedKept_of_eq (s.ownedRead_events _ _) (s.ownedRead_windows _ _)
      · exact s.sharedKept_mirroredWrite m addr _ _
      · exact State.sharedKept_of_eq rfl rfl

theorem State.sharedKept_terminateAccess (s : State) (x : Termination) : State.SharedKept s (s.terminateAccess x) := by
  obtain ⟨-, e⟩ | ⟨p, -, ⟨-, e⟩ | ⟨-, e⟩⟩ := s.terminateAccess_cases x <;> rw [e]
  · exact State.sharedKept_of_eq rfl rfl
  · exact State.sharedKept_of_eq (s.commitMirror_events p) (s.commitMirror_windows p)
  · exact State.sharedKept_of_eq rfl rfl

/-- A chip reset keeps the threshold, and disables every window entry (R108, R155). -/
theorem State.sharedKept_chipReset (s : State) : State.SharedKept s s.chipReset where
  events h := h.resetWith
  windows h e := by
    rw [State.chipReset_window]
    exact (h e).disabled

theorem State.sharedKept_hardwareReset (s : State) : State.SharedKept s s.hardwareReset where
  events _ := EventQueue.resetWith_sound _ _ (by decide)
  windows _ e := by
    rw [State.hardwareReset_window]
    exact WindowEntry.reset_sound

/-! ## Every command -/

theorem exec_sharedKept {c : Instr} {s t : State} (h : exec c s = .next t) : State.SharedKept s t := by
  have same {u : State} (he : u.events = s.events) (hw : u.windows = s.windows) := State.sharedKept_of_eq he hw
  cases c <;> cases h
  case ownedWrite => exact s.sharedKept_hostAccess _ _ _
  case ownedRead => exact s.sharedKept_hostAccess _ _ _
  case mirroredWrite => exact s.sharedKept_hostAccess _ _ _
  case passedAccess => exact s.sharedKept_hostAccess _ _ _
  case mirrorTermination => exact s.sharedKept_terminateAccess _
  case registerWrite => exact s.sharedKept_present _ (s.sharedKept_registerAccess _ _)
  case configurationAWrite p v => exact s.sharedKept_present _ (s.sharedKept_writeConfigA p v)
  case configurationBWrite p v => exact s.sharedKept_present _ (s.sharedKept_writeConfigB p v)
  case windowControlWrite e v => exact s.sharedKept_present _ (s.sharedKept_writeWindowControl e v)
  case windowBaseWrite e v => exact s.sharedKept_present _ (s.sharedKept_writeWindowBase e v)
  case windowRemoteWrite e v => exact s.sharedKept_present _ (s.sharedKept_writeWindowRemote e v)
  case discardTimeWrite v => exact s.sharedKept_present _ (s.sharedKept_writeDiscardTime v)
  case classMaskWrite v => exact s.sharedKept_present _ (s.sharedKept_writeClassMask v)
  case interruptControlWrite v => exact s.sharedKept_present _ (s.sharedKept_writeInterruptControl v)
  case requestControlWrite n v => exact s.sharedKept_present _ (s.sharedKept_writeRequest n _)
  case requestRemoteAddressWrite n v => exact s.sharedKept_present _ (s.sharedKept_writeRequest n _)
  case requestDataWrite n k v => exact s.sharedKept_present _ (s.sharedKept_writeRequest n _)
  case enable p =>
    exact s.sharedKept_presentCommand ((s.within_enablePort p).sharedKept (State.offered_of_eq (s.enablePort_events p)))
  case disable p => exact s.sharedKept_presentCommand ((s.within_disablePort p).sharedKept (s.offered_disablePort p))
  case resume p =>
    exact s.sharedKept_presentCommand ((s.within_resumePort p).sharedKept (State.offered_of_eq (s.resumePort_events p)))
  case flush p => exact s.sharedKept_presentCommand ((s.within_flushPort p).sharedKept (s.offered_flushPort p))
  case restart p =>
    exact s.sharedKept_presentCommand ((s.within_restartPort p).sharedKept (State.offered_of_eq (s.restartPort_events p)))
  case ackAttention p =>
    exact s.sharedKept_presentCommand ((s.within_ackAttention p).sharedKept (State.offered_of_eq (s.ackAttention_events p)))
  case portCommandUnknown p v => exact s.sharedKept_presentCommand (s.sharedKept_portCommand p _)
  case submit n =>
    exact s.sharedKept_presentCommand (State.sharedKept_of_offered (s.offered_submitRequest n) (s.submitRequest_windows n))
  case cancel n =>
    exact s.sharedKept_presentCommand (State.sharedKept_of_offered (s.offered_cancelRequest n) (s.cancelRequest_windows n))
  case release n => exact s.sharedKept_presentCommand (same (s.releaseRequest_events n) (s.releaseRequest_windows n))
  case slotCommandUnknown n v => exact s.sharedKept_presentCommand (s.sharedKept_slotCommand n _)
  case pop => exact s.sharedKept_presentCommand s.sharedKept_popEvent
  case eventCommandUnknown v => exact s.sharedKept_presentCommand (s.sharedKept_eventCommand _)
  case chipReset => exact s.sharedKept_presentCommand (same rfl rfl)
  case globalCommandUnknown v => exact s.sharedKept_presentCommand (s.sharedKept_globalCommand _)
  case chipResetTaken =>
    split
    · exact s.sharedKept_chipReset
    · exact same rfl rfl
  case hardwareReset => exact s.sharedKept_hardwareReset
  case resetRelease =>
    split
    · exact same rfl rfl
    · exact same rfl rfl
  case crcErrorCounterRead => exact s.sharedKept_present _ (s.sharedKept_readAccess _)
  case malformedFrameCounterRead => exact s.sharedKept_present _ (s.sharedKept_readAccess _)
  case retransmissionCounterRead => exact s.sharedKept_present _ (s.sharedKept_readAccess _)
  case staleResponseCounterRead => exact s.sharedKept_present _ (s.sharedKept_readAccess _)
  case probeAttemptCounterRead => exact s.sharedKept_present _ (s.sharedKept_readAccess _)
  case mirrorLostCounterRead => exact s.sharedKept_present _ (s.sharedKept_readAccess _)
  case refusalCounterRead => exact s.sharedKept_present _ (s.sharedKept_readAccess _)
  case invalidationCounterRead => exact s.sharedKept_present _ (s.sharedKept_readAccess _)
  case ackFrameReceived p _ _ => exact (s.within_stationFrame p _).sharedKept (s.offered_stationFrame p _)
  case dataFrameReceived p _ _ _ => exact (s.within_stationFrame p _).sharedKept (s.offered_stationFrame p _)
  case rejectFrameReceived p _ _ _ _ => exact (s.within_stationFrame p _).sharedKept (s.offered_stationFrame p _)
  case identFrameReceived p _ _ _ _ _ => exact (s.within_stationFrame p _).sharedKept (s.offered_stationFrame p _)
  case crcErrorFrame p bs => exact (State.within_lineBytes p bs s).sharedKept (State.offered_lineBytes p bs s)
  case malformedFrame p bs => exact (State.within_lineBytes p bs s).sharedKept (State.offered_lineBytes p bs s)
  case carrierLost p => exact (s.within_loseCarrier p).sharedKept (s.offered_loseCarrier p)
  case carrierRegained p => exact (s.within_regainCarrier p).sharedKept (State.offered_of_eq (s.regainCarrier_events p))
  case transmissionEnd p => exact (s.within_endTransmission p).sharedKept (State.offered_of_eq (s.endTransmission_events p))
  case responseTimerExpiry p => exact (s.within_expireResponseTimer p).sharedKept (s.offered_expireResponseTimer p)
  case busyBackoffEnd p => exact (s.within_endBackoff p).sharedKept (State.offered_of_eq (s.endBackoff_events p))
  case probeResponseWaitExpiry p =>
    exact (s.within_expireResponseWait p).sharedKept (State.offered_of_eq (s.expireResponseWait_events p))
  case probeIntervalExpiry p =>
    exact (s.within_expireProbeInterval p).sharedKept (State.offered_of_eq (s.expireProbeInterval_events p))
  case reprobeIntervalExpiry p =>
    exact (s.within_expireReprobeInterval p).sharedKept (State.offered_of_eq (s.expireReprobeInterval_events p))
  case discardTimerExpiry n =>
    exact State.sharedKept_of_offered (s.offered_expireDiscardTimer n) (s.expireDiscardTimer_windows n)
  case holdoffTimerExpiry => exact s.sharedKept_setEvents EventQueue.Sound.expireHoldoff
  case timestampTick => exact s.sharedKept_tick

/-- Settles O9: a step runs the command in front, which keeps both laws, or idles. -/
theorem eventAndWindowLawsKept : Obligations.EventAndWindowLawsKept := by
  intro s t h
  suffices kept : State.SharedKept s t from ⟨kept.events, kept.windows⟩
  unfold step at h
  split at h
  · cases h
    exact State.sharedKept_of_eq rfl rfl
  · have kept := exec_sharedKept h
    exact ⟨kept.events, kept.windows⟩

end Sys2Proof.Machine
end

section
/-! PROOF. O14 and O28: the address windows. The lookup is the search for the lowest entry that covers the address; the window
registers take a write or refuse it by what stands in the entry. -/

namespace Sys2Proof.Machine

/-! ## Lookup -/

/-- An entry covers the addresses from its base up to its size (R101). -/
theorem WindowEntry.covers_iff (w : WindowEntry) (addr : Word) :
    w.covers addr = true ↔ w.enable = true ∧ w.baseWord.toNat ≤ addr.toNat ∧
      addr.toNat < w.baseWord.toNat + 4096 * 2 ^ w.sizeCode.toNat := by
  unfold WindowEntry.covers WindowEntry.sizeBytes
  rw [Bool.and_eq_true, Bool.and_eq_true, decide_eq_true_iff, decide_eq_true_iff, and_assoc]

/-- The offset of an address in a window is added to the remote base, modulo 2^32 (R102). -/
theorem WindowEntry.translate_eq {w : WindowEntry} {addr : Word} (h : w.baseWord.toNat ≤ addr.toNat) :
    w.translate addr = BitVec.ofNat 32 (w.remoteWord.toNat + (addr.toNat - w.baseWord.toNat)) := by
  have offset : (addr - w.baseWord).toNat = addr.toNat - w.baseWord.toNat := BitVec.toNat_sub_of_le h
  rw [WindowEntry.translate, ← offset, BitVec.ofNat_add, BitVec.ofNat_toNat, BitVec.ofNat_toNat, BitVec.setWidth_eq,
    BitVec.setWidth_eq]

/-- The entries are searched from the lowest index up (R103). -/
theorem entryNumbers_find? (covers : EntryId → Bool) : entryNumbers.find? covers = Fin.find? covers :=
  Fin.find?_eq_find?_finRange.symm

theorem lookup_eq_none {windows : Vector WindowEntry 12} {addr : Word} (h : ∀ e : EntryId, windows[e].covers addr = false) :
    lookup windows addr = none := by
  have unfound : entryNumbers.find? (fun e => windows[e].covers addr) = none := by
    rw [entryNumbers_find?, Fin.find?_eq_none_iff]
    exact h
  rw [lookup, unfound]

theorem lookup_eq_some {windows : Vector WindowEntry 12} {addr : Word} {e : EntryId} (he : windows[e].covers addr = true)
    (lowest : ∀ f, f < e → windows[f].covers addr = false) :
    lookup windows addr = some ⟨e, windows[e].mode, windows[e].port, windows[e].translate addr, windows[e].readPermitted,
      windows[e].writePermitted⟩ := by
  have found : entryNumbers.find? (fun e => windows[e].covers addr) = some e := by
    rw [entryNumbers_find?, Fin.find?_eq_some_iff]
    exact ⟨he, lowest⟩
  rw [lookup, found]

/-- Settles O14: the search stops at the first entry that covers the address. -/
theorem lookupTakesTheLowestMatch : Obligations.LookupTakesTheLowestMatch := by
  intro windows addr
  have covers (e : EntryId) := windows[e].covers_iff addr
  refine ⟨fun outside => lookup_eq_none fun e => Bool.eq_false_iff.2 (mt (covers e).1 (outside e)), fun e inside lowest => ?_⟩
  rw [lookup_eq_some ((covers e).2 inside) fun f below => Bool.eq_false_iff.2 (mt (covers f).1 (lowest f below)),
    WindowEntry.translate_eq inside.2.1]

/-! ## Window registers -/

section
variable {s : State} {e : EntryId}

/-- A control word is refused by a disabled entry that may not be written so, and by an enabled one unless it only disables it
(R105, R106). -/
theorem State.writeWindowControl_of_refused {v : Word}
    (h : (s.window e).enable = false ∧ ((s.window e).withControl v).acceptable = false ∨
      (s.window e).enable = true ∧ (s.window e).withControl v ≠ (s.window e).disabled) :
    s.writeWindowControl e v = s.withAnswer .berr := by
  unfold State.writeWindowControl
  dsimp only
  obtain ⟨off, unacceptable⟩ | ⟨on, other⟩ := h
  · rw [if_neg (by simp [off]), if_neg (by simp [unacceptable])]
  · rw [if_pos on, if_neg other]

theorem State.writeWindowBase_of_enabled (h : (s.window e).enable = true) (v : Word) :
    s.writeWindowBase e v = s.withAnswer .berr := if_pos h

theorem State.writeWindowRemote_of_enabled (h : (s.window e).enable = true) (v : Word) :
    s.writeWindowRemote e v = s.withAnswer .berr := if_pos h

end

/-- A control word is acceptable for its size code and, if it enables the entry, for the alignment of the base that stands
(R105). -/
theorem WindowEntry.withControl_acceptable_iff (w : WindowEntry) (v : Word) :
    (w.withControl v).acceptable = true ↔ (v.extractLsb' 8 5).toNat ≤ 16 ∧
      (v.getLsbD 0 = true → w.baseWord.toNat % (4096 * 2 ^ (v.extractLsb' 8 5).toNat) = 0) := by
  rw [WindowEntry.acceptable_iff, WindowEntry.baseAligned, beq_iff_eq]
  rfl

/-- Settles O28, by the register and the enable that stands. -/
theorem windowWritesPrepareEnableAndLock : Obligations.WindowWritesPrepareEnableAndLock := by
  intro s e v hr
  dsimp only
  have control : exec (.windowControlWrite e v) s = .next (s.writeWindowControl e v) :=
    congrArg Host.Outcome.next (State.present_of_ready hr rfl _)
  have base : exec (.windowBaseWrite e v) s = .next (s.writeWindowBase e v) :=
    congrArg Host.Outcome.next (State.present_of_ready hr rfl _)
  have remote : exec (.windowRemoteWrite e v) s = .next (s.writeWindowRemote e v) :=
    congrArg Host.Outcome.next (State.present_of_ready hr rfl _)
  have acceptable := (s.window e).withControl_acceptable_iff v
  rw [control, base, remote]
  refine ⟨fun off size aligned => ?_, fun off refused => ?_, fun on disabling => ?_, fun on other => ?_,
    fun off => ⟨?_, ?_⟩, fun on => ⟨?_, ?_⟩⟩
  · rw [State.writeWindowControl_of_taken (.inl ⟨off, acceptable.2 ⟨size, aligned⟩⟩)]
    rfl
  · rw [State.writeWindowControl_of_refused (.inl ⟨off, Bool.eq_false_iff.2 (mt acceptable.1 ?_)⟩)]
    rintro ⟨size, aligned⟩
    obtain large | ⟨enabling, unaligned⟩ := refused
    · exact absurd size (Nat.not_le.2 large)
    · exact unaligned (aligned enabling)
  · rw [State.writeWindowControl_of_taken (.inr ⟨on, disabling⟩)]
    exact congrArg (fun w => Host.Outcome.next ((s.setWindow e w).withAnswer .ack)) disabling
  · rw [State.writeWindowControl_of_refused (.inr ⟨on, other⟩)]
  · rw [State.writeWindowBase_of_disabled off]
  · rw [State.writeWindowRemote_of_disabled off]
  · rw [State.writeWindowBase_of_enabled on]
  · rw [State.writeWindowRemote_of_enabled on]

end Sys2Proof.Machine
end

section
/-! PROOF. O15, O19, O20 and O21: writes to OWNED and MIRRORED windows, the termination of the access in progress, accesses that
are passed, and accesses that are not decided. -/

namespace Sys2Proof.Machine

/-! ## Presentation -/

/-- A host access that is aligned, and that the HBT is ready for, is decided by the windows (R109, R111). -/
theorem State.hostAccess_of_ready {s : State} {addr : Word} {k : AccessKind} (hr : s.Ready)
    (ha : addr.toNat % k.size.bytes = 0) (m : MasterId) : s.hostAccess m addr k = s.windowAccess m addr k :=
  State.present_of_ready hr (by simp [aligned, ha]) _

section
variable {s : State} {addr : Word} {h : Hit} (hw : inRegisterWindow s.pins addr = false) (hl : lookup s.windows addr = some h)
include hw hl

theorem State.windowAccess_ownedWrite (hm : h.mode = .owned) (m : MasterId) (d : WriteData) :
    s.windowAccess m addr (.write d) = s.ownedWrite h d := by
  simp [State.windowAccess, hw, hl, hm]

theorem State.windowAccess_mirroredWrite (hm : h.mode = .mirrored) (m : MasterId) (d : WriteData) :
    s.windowAccess m addr (.write d) = s.mirroredWrite m addr h d := by
  simp [State.windowAccess, hw, hl, hm]

theorem State.windowAccess_mirroredRead (hm : h.mode = .mirrored) (m : MasterId) (z : Size) :
    s.windowAccess m addr (.read z) = s.pass ⟨m, addr, .read z, none⟩ := by
  simp [State.windowAccess, hw, hl, hm]

end

theorem State.windowAccess_unclaimed {s : State} {addr : Word} (hw : inRegisterWindow s.pins addr = false)
    (hl : lookup s.windows addr = none) (m : MasterId) (k : AccessKind) :
    s.windowAccess m addr k = s.pass ⟨m, addr, k, none⟩ := by
  simp [State.windowAccess, hw, hl]

/-! ## The answer of the PTQ to a posted write (Table 1-7) -/

theorem Port.refusal_posted (q : Port) :
    q.refusal .posted = if q.link = .off then some .portState else if q.poolCount < 16 then none else some .noRoom := by
  by_cases hoff : q.link = .off <;> by_cases hroom : q.poolCount < 16 <;>
    simp [Port.refusal, Port.refusesState, Port.hasRoom, Config.poolSize, hoff, hroom]

theorem Port.refusal_posted_of_off {q : Port} (h : q.link = .off) : q.refusal .posted = some .portState := by
  rw [Port.refusal_posted, if_pos h]

theorem Port.refusal_posted_of_full {q : Port} (h : q.link ≠ .off) (full : 16 ≤ q.poolCount) :
    q.refusal .posted = some .noRoom := by
  rw [Port.refusal_posted, if_neg h, if_neg (Nat.not_lt.2 full)]

theorem Port.refusal_posted_of_room {q : Port} (h : q.link ≠ .off) (room : q.poolCount < 16) : q.refusal .posted = none := by
  rw [Port.refusal_posted, if_neg h, if_pos room]

/-- A posted write is turned away for good when the link is OFF, or when the pool is full and the port is not flowing. -/
theorem Port.refusal_posted_of_stopped {q : Port}
    (h : q.link = .off ∨ (16 ≤ q.poolCount ∧ ¬ (q.link = .up ∧ q.queue = .run))) :
    q.refusal .posted = some .portState ∨ (q.refusal .posted = some .noRoom ∧ q.flowing = false) := by
  by_cases hoff : q.link = .off
  · exact .inl (Port.refusal_posted_of_off hoff)
  · obtain ⟨full, stopped⟩ := h.resolve_left hoff
    exact .inr ⟨Port.refusal_posted_of_full hoff full, by simpa using mt q.flowing_iff.1 stopped⟩

/-- A full pool of a port that is flowing turns a posted write away for want of room alone. -/
theorem Port.refusal_posted_of_flowing {q : Port} (full : 16 ≤ q.poolCount) (up : q.link = .up) (run : q.queue = .run) :
    q.refusal .posted = some .noRoom ∧ q.flowing = true :=
  ⟨Port.refusal_posted_of_full (by simp [up]) full, q.flowing_iff.2 ⟨up, run⟩⟩

/-! ## Writes to OWNED windows -/

theorem exec_ownedWrite_of_hit {s : State} {m : MasterId} {addr : Word} {d : WriteData} {h : Hit} (hr : s.Ready)
    (ha : addr.toNat % d.size.bytes = 0) (hw : inRegisterWindow s.pins addr = false) (hl : lookup s.windows addr = some h)
    (hm : h.mode = .owned) : exec (.ownedWrite m addr d) s = .next (s.ownedWrite h d) := by
  show Host.Outcome.next (s.hostAccess m addr (.write d)) = _
  rw [State.hostAccess_of_ready hr ha, State.windowAccess_ownedWrite hw hl hm]

section
variable {s : State} {h : Hit} (d : WriteData)

theorem State.ownedWrite_of_forbidden (hp : h.writePermitted = false) : s.ownedWrite h d = s.withAnswer .berr := by
  simp [State.ownedWrite, hp]

theorem State.ownedWrite_of_stopped (hr : (s.port h.port).refusal .posted = some .portState ∨
    ((s.port h.port).refusal .posted = some .noRoom ∧ (s.port h.port).flowing = false)) :
    s.ownedWrite h d = s.withAnswer .berr := by
  obtain hr | ⟨hr, hf⟩ := hr
  · simp [State.ownedWrite, hr]
  · simp [State.ownedWrite, hr, hf]

theorem State.ownedWrite_of_full (hp : h.writePermitted = true) (hr : (s.port h.port).refusal .posted = some .noRoom)
    (hf : (s.port h.port).flowing = true) : s.ownedWrite h d = s.withAnswer .rty := by
  simp [State.ownedWrite, hp, hr, hf]

theorem State.ownedWrite_of_room (hp : h.writePermitted = true) (hr : (s.port h.port).refusal .posted = none) :
    s.ownedWrite h d = (s.admitPosted h.port (postedRecord h.remote d)).withAnswer .ack := by
  simp [State.ownedWrite, hp, hr]

end

/-- Settles O15, by the lines of Table 7-3. -/
theorem ownedWriteFollowsItsTable : Obligations.OwnedWriteFollowsItsTable := by
  intro s m addr d h hr ha hw hl hm
  dsimp only
  rw [exec_ownedWrite_of_hit hr ha hw hl hm]
  refine ⟨fun hno => ?_, fun hp full up run => ?_, fun hp on room => ?_⟩
  · obtain hp | stopped := hno
    · rw [State.ownedWrite_of_forbidden d hp]
    · rw [State.ownedWrite_of_stopped d (Port.refusal_posted_of_stopped stopped)]
  · obtain ⟨noRoom, flowing⟩ := Port.refusal_posted_of_flowing full up run
    rw [State.ownedWrite_of_full d hp noRoom flowing]
  · rw [State.ownedWrite_of_room d hp (Port.refusal_posted_of_room on room)]
    rfl

/-! ## Writes to MIRRORED windows -/

theorem exec_mirroredWrite_of_hit {s : State} {m : MasterId} {addr : Word} {d : WriteData} {h : Hit} (hr : s.Ready)
    (ha : addr.toNat % d.size.bytes = 0) (hw : inRegisterWindow s.pins addr = false) (hl : lookup s.windows addr = some h)
    (hm : h.mode = .mirrored) : exec (.mirroredWrite m addr d) s = .next (s.mirroredWrite m addr h d) := by
  show Host.Outcome.next (s.hostAccess m addr (.write d)) = _
  rw [State.hostAccess_of_ready hr ha, State.windowAccess_mirroredWrite hw hl hm]

section
variable {s : State} {h : Hit} (m : MasterId) (addr : Word) (d : WriteData)

theorem State.mirroredWrite_of_forbidden (hp : h.writePermitted = false) :
    s.mirroredWrite m addr h d = s.pass ⟨m, addr, .write d, none⟩ := by
  simp [State.mirroredWrite, hp]

theorem State.mirroredWrite_of_stopped (hp : h.writePermitted = true)
    (hr : (s.port h.port).refusal .posted = some .portState ∨
      ((s.port h.port).refusal .posted = some .noRoom ∧ (s.port h.port).flowing = false)) :
    s.mirroredWrite m addr h d = (s.loseMirror h.port).pass ⟨m, addr, .write d, none⟩ := by
  obtain hr | ⟨hr, hf⟩ := hr
  · simp [State.mirroredWrite, hp, hr]
  · simp [State.mirroredWrite, hp, hr, hf]

theorem State.mirroredWrite_of_full (hp : h.writePermitted = true) (hr : (s.port h.port).refusal .posted = some .noRoom)
    (hf : (s.port h.port).flowing = true) : s.mirroredWrite m addr h d = s.withAnswer .override := by
  simp [State.mirroredWrite, hp, hr, hf]

theorem State.mirroredWrite_of_room (hp : h.writePermitted = true) (hr : (s.port h.port).refusal .posted = none) :
    s.mirroredWrite m addr h d =
      (s.reserveMirror ⟨h.port, h.remote⟩ d).pass ⟨m, addr, .write d, some ⟨h.port, h.remote⟩⟩ := by
  simp [State.mirroredWrite, hp, hr]

end

/-- The count of a mirror lost, and its event at the first, leave the access in progress (R119). -/
@[simp] theorem State.loseMirror_target (s : State) (p : PortId) : (s.loseMirror p).target = s.target := by
  unfold State.loseMirror
  dsimp only
  split <;> rfl

theorem State.loseMirror_eq (s : State) (p : PortId) :
    let counted := s.setPort p { s.port p with
      mirrorLost := if (s.port p).mirrorLost = 65535#16 then 65535#16 else (s.port p).mirrorLost + 1 }
    s.loseMirror p = if (s.port p).mirrorLost = 0 then counted.offer ⟨.mirrorLost, p, .none, 0, .none⟩ else counted := by
  dsimp only
  rw [← satSucc16_eq]
  rfl

/-- Settles O19, by the lines of Table 7-4. -/
theorem mirroredWriteFollowsItsTable : Obligations.MirroredWriteFollowsItsTable := by
  intro s m addr d h hr ha hw hl hm
  dsimp only
  rw [exec_mirroredWrite_of_hit hr ha hw hl hm]
  refine ⟨fun hp => ?_, fun hp => ⟨fun stopped => ?_, fun full up run => ?_, fun on room => ?_⟩⟩
  · rw [State.mirroredWrite_of_forbidden m addr d hp]
    rfl
  · rw [State.mirroredWrite_of_stopped m addr d hp (Port.refusal_posted_of_stopped stopped), State.pass,
      State.loseMirror_target, State.loseMirror_eq]
  · obtain ⟨noRoom, flowing⟩ := Port.refusal_posted_of_flowing full up run
    rw [State.mirroredWrite_of_full m addr d hp noRoom flowing]
  · rw [State.mirroredWrite_of_room m addr d hp (Port.refusal_posted_of_room on room)]
    rfl

/-! ## The termination of the access that holds the reservation -/

section
variable {front : List Record} {r : Record} (hr : r.reserved = true) (hf : ∀ x ∈ front, x.reserved = false)
include hr hf

/-- A lane whose last record alone is RESERVED gives that record. -/
theorem find?_reserved_last : (front ++ [r]).find? Record.reserved = some r := by
  have none_before : front.find? Record.reserved = none := List.find?_eq_none.2 fun x hx => by simp [hf x hx]
  simp [List.find?_append, none_before, hr]

theorem map_commit_last (data : List Byte) :
    (front ++ [r]).map (Record.commit data) = front ++ [{ r with data := data, reserved := false }] := by
  have kept : front.map (Record.commit data) = front :=
    (List.map_congr_left fun x hx => by simp [Record.commit, hf x hx]).trans front.map_id
  rw [List.map_append, kept]
  simp [Record.commit, hr]

theorem filter_queued_last : (front ++ [r]).filter Record.queued = front := by
  have kept : front.filter Record.queued = front := List.filter_eq_self.2 fun x hx => by simp [Record.queued, hf x hx]
  rw [List.filter_append, kept]
  simp [Record.queued, hr]

end

/-- A commit, where the lane ends in the RESERVED record and the access in progress is a write (R8, R118). -/
theorem State.commitMirror_eq {s : State} {p : PortId} {a : HeldAccess} {d : WriteData} {front : List Record} {r : Record}
    (ha : s.target.access = some a) (hk : a.kind = .write d) (hn : (s.port p).normal = front ++ [r])
    (hr : r.reserved = true) (hf : ∀ x ∈ front, x.reserved = false) :
    s.commitMirror p = (((s.setPort p { s.port p with
      normal := front ++ [{ r with data := d.bytes, reserved := false }]
      postedIn := (s.port p).postedIn + 1 }).invalidate p r).setTarget ⟨none, none, none⟩).arbitrate p := by
  have captured : s.target.capture.captured.getD [] = d.bytes := by simp [HostTarget.capture, ha, HeldAccess.data, hk]
  have committed : (s.port p).commitReserved d.bytes = { s.port p with
      normal := front ++ [{ r with data := d.bytes, reserved := false }], postedIn := (s.port p).postedIn + 1 } := by
    rw [Port.commitReserved, hn, map_commit_last hr hf]
  unfold State.commitMirror
  dsimp only
  rw [State.setTarget_target, captured, State.setTarget_port, hn, find?_reserved_last hr hf, State.modPort,
    State.setTarget_port, committed]
  rfl

theorem State.releaseMirror_eq {s : State} {p : PortId} {front : List Record} {r : Record}
    (hn : (s.port p).normal = front ++ [r]) (hr : r.reserved = true) (hf : ∀ x ∈ front, x.reserved = false) :
    s.releaseMirror p = (s.setPort p { s.port p with normal := front }).setTarget ⟨none, none, none⟩ := by
  rw [State.releaseMirror, State.modPort, Port.releaseReserved, hn, filter_queued_last hr hf]
  rfl

/-- Settles O20: an ACK commits the reservation, and a BERR or an RTY releases it (Table 7-6). -/
theorem mirrorTerminationCommitsOrReleases : Obligations.MirrorTerminationCommitsOrReleases := by
  intro s p a d front r ha hk hm hn hr hf
  dsimp only
  constructor
  · have commits : s.terminateAccess .ack = s.commitMirror p := by rw [State.terminateAccess, hm]
    show Host.Outcome.next (s.terminateAccess .ack) = _
    rw [commits, State.commitMirror_eq ha hk hn hr hf]
  · intro x hx
    have releases : s.terminateAccess x = s.releaseMirror p := by
      rw [State.terminateAccess, hm]
      obtain rfl | rfl := hx <;> rfl
    show Host.Outcome.next (s.terminateAccess x) = _
    rw [releases, State.releaseMirror_eq hn hr hf]

/-! ## Accesses that are passed -/

theorem State.terminateAccess_unreserved {s : State} (h : s.target.reservation = none) (x : Termination) :
    s.terminateAccess x = s.setTarget { s.target with access := none } := by
  rw [State.terminateAccess, h]

/-- A passed access is held, and nothing else of the state changes but the answer (R109, R113). -/
theorem exec_passedAccess_of_pass {s : State} {m : MasterId} {addr : Word} {k : AccessKind} (hr : s.Ready)
    (ha : addr.toNat % k.size.bytes = 0) (hw : inRegisterWindow s.pins addr = false)
    (hl : lookup s.windows addr = none ∨ ∃ h z, lookup s.windows addr = some h ∧ h.mode = .mirrored ∧ k = .read z) :
    exec (.passedAccess m addr k) s = .next (s.pass ⟨m, addr, k, none⟩) := by
  show Host.Outcome.next (s.hostAccess m addr k) = _
  rw [State.hostAccess_of_ready hr ha]
  obtain hl | ⟨h, z, hl, hm, rfl⟩ := hl
  · rw [State.windowAccess_unclaimed hw hl]
  · rw [State.windowAccess_mirroredRead hw hl hm]

/-- The end of an access that holds no reservation undoes its being held. -/
theorem State.terminateAccess_pass {s : State} (free : s.target.access = none) {a : HeldAccess}
    (h : s.target.reservation = none) (x : Termination) : (s.pass a).terminateAccess x = s.withAnswer .pass := by
  have target : { s.target with access := none } = s.target := by rw [← free]
  rw [State.terminateAccess_unreserved (by simpa using h), State.pass_target]
  show ({ s with target := { s.target with access := none }, answer := .pass } : State) = _
  rw [target]
  rfl

/-! ## Accesses that are not decided -/

section
variable {s : State} (b : Bool) (act : State → State)

theorem State.present_of_asserted (h : s.resetAsserted = true) : s.present b act = s.withAnswer .pass := by
  simp [State.present, h]

theorem State.present_of_notPresented (h : s.resetAsserted = false) (hb : b = false ∨ s.target.access ≠ none) :
    s.present b act = s.withAnswer .notPresented := by
  obtain rfl | busy := hb
  · simp [State.present, h]
  · simp [State.present, h, Option.isSome_iff_ne_none, busy]

theorem State.present_of_chipResetDue (h : s.resetAsserted = false) (hb : b = true) (free : s.target.access = none)
    (due : s.chipResetDue = true) : s.present b act = s.withAnswer .undecided := by
  simp [State.present, h, hb, free, due]

end

/-- Settles O21: the access is held until its end, and an access that is not decided is only recorded, by the row of
`State.present` that leaves it undecided. -/
theorem passedAccessLeavesNoTrace : Obligations.PassedAccessLeavesNoTrace := by
  refine ⟨fun s m addr k ha hr hw hl => ⟨exec_passedAccess_of_pass hr ha hw hl, fun h x => ?_⟩, fun s x h => ?_,
    fun s c addr bytes hc => ?_⟩
  · exact congrArg Host.Outcome.next (State.terminateAccess_pass hr.busFree h x)
  · exact congrArg Host.Outcome.next (State.terminateAccess_unreserved h x)
  · obtain ⟨act, e⟩ := exec_present hc s
    rw [e]
    refine ⟨fun h => ?_, fun h hb => ?_, fun h ha free due => ?_⟩
    · rw [State.present_of_asserted _ _ h]
    · rw [State.present_of_notPresented _ _ h (hb.imp_left fun ha => by simpa [aligned] using ha)]
    · rw [State.present_of_chipResetDue _ _ h (by simpa [aligned] using ha) free due]

end Sys2Proof.Machine
end

section
/-! PROOF. O23 and O24: the register map, Table 7-2, and the agreement of a register access with the rows of its register. -/

namespace Sys2Proof.Machine

/-! ## The register map -/

theorem portRegAt_offset {word : Nat} (h : word < 16) : (portRegAt word).offset = 4 * word := by
  interval_cases word <;> rfl

theorem lowRegAt_offset {word : Nat} {r : Reg} (h : lowRegAt word = some r) : r.offset = 4 * word := by
  unfold lowRegAt at h
  split at h <;> cases h <;> rfl

/-- The register found at an offset is placed there (R157). -/
theorem offset_of_regAt {o : BitVec 10} {r : Reg} (h : regAt o = some r) : r.offset = o.toNat := by
  have bound := o.isLt
  unfold regAt at h
  dsimp only at h
  split at h
  · cases h
  rename_i onWord
  simp only [bne_iff_ne, ne_eq, Decidable.not_not] at onWord
  split at h -- the single registers
  · rw [lowRegAt_offset h]
    omega
  split at h -- the delayed-read slots
  · split at h <;> cases h <;> simp only [Reg.offset, Fin.val_ofNat] <;> omega
  split at h
  · cases h
  split at h -- the window entries
  · split at h <;> cases h <;> simp only [Reg.offset, Fin.val_ofNat] <;> omega
  split at h -- the request slots
  · split at h
    case h_5 control remote command status =>
      rw [imp_false] at control remote command status
      cases h
      simp only [Reg.offset, Fin.val_ofNat]
      omega
    all_goals
      cases h
      simp only [Reg.offset, Fin.val_ofNat]
      omega
  split at h -- the blocks of the ports
  · cases h
  · cases h
    rw [Reg.offset, portRegAt_offset (by omega), Fin.val_ofNat]
    omega

theorem PortReg.offset_lt (r : PortReg) : r.offset < 64 := by cases r <;> decide

theorem Reg.offset_lt (r : Reg) : r.offset < 1024 := by
  cases r with
  | port p x =>
    have := x.offset_lt
    simp only [Reg.offset]
    omega
  | _ => simp only [Reg.offset]; omega

theorem Reg.offset_aligned (r : Reg) : r.offset % 4 = 0 := by
  cases r with
  | port p x => cases x <;> simp only [Reg.offset, PortReg.offset] <;> omega
  | _ => simp only [Reg.offset] <;> omega

/-- Each register is found at its own offset (R157). -/
theorem regAt_offset (r : Reg) : regAt (BitVec.ofNat 10 r.offset) = some r := by
  cases r with
  | port p x => revert p; cases x <;> decide
  | slotStatus n w => revert n w; decide
  | requestData n i => revert n i; decide
  | eventHead k => revert k; decide
  | windowControl e => revert e; decide
  | windowBase e => revert e; decide
  | windowRemote e => revert e; decide
  | requestControl n => revert n; decide
  | requestRemote n => revert n; decide
  | requestCommand n => revert n; decide
  | requestStatus n => revert n; decide
  | _ => decide

theorem regAt_of_offset {o : BitVec 10} {r : Reg} (h : r.offset = o.toNat) : regAt o = some r := by
  have e : BitVec.ofNat 10 r.offset = o := by rw [h, BitVec.ofNat_toNat, BitVec.setWidth_eq]
  rw [← e, regAt_offset]

theorem regAt_of_unassigned {o : BitVec 10} (h : ∀ r : Reg, r.offset ≠ o.toNat) : regAt o = none :=
  Option.eq_none_iff_forall_ne_some.2 fun r hr => h r (offset_of_regAt hr)

/-! ## Accesses at an offset (Table 7-2) -/

theorem exec_registerWrite_of_ready {s : State} (hr : s.Ready) {off : BitVec 10} {a : RegAccess}
    (h : off.toNat % a.bytes = 0) : exec (.registerWrite off a) s = .next (s.registerAccess off a) :=
  congrArg Host.Outcome.next (State.present_of_ready hr (by simp [aligned, h]) _)

section
variable (s : State) {off : BitVec 10}

theorem State.registerAccess_read {r : Reg} (h : regAt off = some r) : s.registerAccess off .read4 = s.readAccess r := by
  simp [State.registerAccess, h]

theorem State.registerAccess_write {r : Reg} (h : regAt off = some r) (v : Word) :
    s.registerAccess off (.write4 v) = s.writeReg r v := by
  simp [State.registerAccess, h]

theorem State.registerAccess_read_unassigned (h : regAt off = none) :
    s.registerAccess off .read4 = s.withAnswer (.ackWord 0) := by
  simp [State.registerAccess, h]

theorem State.registerAccess_write_unassigned (h : regAt off = none) (v : Word) :
    s.registerAccess off (.write4 v) = s.withAnswer .ack := by
  simp [State.registerAccess, h]

end

/-! ## A register by its kind -/

theorem Port.clearOnRead_of_kind (q : Port) {r : PortReg} (h : r.kind ≠ .counter) : q.clearOnRead r = q := by
  cases r with
  | mirrorLost | crcErrors | malformedFrames | retransmissions | staleResponses | probeAttempts => exact absurd rfl h
  | _ => rfl

/-- A read changes nothing of the state, but where the register is a clear-on-read counter (R156). -/
theorem State.clearOnRead_of_kind (s : State) {r : Reg} (h : r.kind ≠ .counter) : s.clearOnRead r = s := by
  cases r with
  | port p r => rw [State.clearOnRead, State.modPort, Port.clearOnRead_of_kind _ h, State.setPort_self]
  | refusals | invalidations => exact absurd rfl h
  | _ => rfl

theorem State.readAccess_of_kind (s : State) {r : Reg} (h : r.kind ≠ .counter) :
    s.readAccess r = s.withAnswer (.ackWord (s.readReg r)) := by
  rw [State.readAccess, s.clearOnRead_of_kind h]

theorem State.readReg_of_command (s : State) {r : Reg} (h : r.kind = .command) : s.readReg r = 0 := by
  cases r with
  | port p r =>
    cases r with
    | control => rfl
    | _ => cases h
  | globalControl | eventControl | requestCommand => rfl
  | _ => cases h

/-- The data of a write to a status register or a counter is ignored (R156). -/
theorem State.writeReg_of_readOnly (s : State) {r : Reg} (h : r.kind = .status ∨ r.kind = .counter) (v : Word) :
    s.writeReg r v = s.withAnswer .ack := by
  cases r with
  | port p r =>
    cases r with
    | control | configA | configB => simp [Reg.kind, PortReg.kind] at h
    | _ => rfl
  | identity | timestamp | eventStatus | eventHead | slotStatus | requestStatus | refusals | invalidations => rfl
  | _ => simp [Reg.kind] at h

/-- Settles O23: the offset is unassigned or names a register, and the register's kind says what an access to it does. -/
theorem registerAccessFollowsItsTable : Obligations.RegisterAccessFollowsItsTable := by
  intro s off hr
  refine ⟨fun dir z ha => exec_registerWrite_of_ready hr ha, fun ha unassigned => ?_, fun r hoff => ?_⟩
  · have absent := regAt_of_unassigned unassigned
    refine ⟨?_, fun v => ?_⟩
    · rw [exec_registerWrite_of_ready hr ha, s.registerAccess_read_unassigned absent]
    · rw [exec_registerWrite_of_ready hr ha, s.registerAccess_write_unassigned absent]
  · have found := regAt_of_offset hoff
    have ha : off.toNat % 4 = 0 := hoff ▸ r.offset_aligned
    refine ⟨fun hk => ?_, fun hk => ?_, fun hk v => ?_⟩
    · rw [exec_registerWrite_of_ready hr ha, s.registerAccess_read found, s.readAccess_of_kind]
      obtain hk | hk := hk <;> simp [hk]
    · rw [exec_registerWrite_of_ready hr ha, s.registerAccess_read found, s.readAccess_of_kind (by simp [hk]),
        s.readReg_of_command hk]
    · rw [exec_registerWrite_of_ready hr ha, s.registerAccess_write found, s.writeReg_of_readOnly hk]

/-! ## An access by address, and an access by the offset of a register -/

theorem State.present_congr {s : State} {b c : Bool} {f g : State → State} (hb : b = c) (h : f s = g s) :
    s.present b f = s.present c g := by
  rw [State.present, State.present, hb, h]

theorem toRegAccess_bytes (k : AccessKind) : (toRegAccess k).bytes = k.size.bytes := by
  cases k with
  | read z => cases z <;> rfl
  | write d => cases d <;> rfl

/-- The offset of an address in the register window is aligned as the address is: every size divides the window (R109). -/
theorem aligned_offset (addr : Word) (z : Size) : aligned (addr.setWidth 10).toNat z.bytes = aligned addr.toNat z.bytes := by
  have divides : z.bytes ∣ 2 ^ 10 := by cases z <;> decide
  rw [aligned, aligned, BitVec.toNat_setWidth, Nat.mod_mod_of_dvd _ divides]

/-- An access in the register window is the access at its offset (R111). -/
theorem exec_passedAccess_of_inRegisterWindow {s : State} {addr : Word} (hw : inRegisterWindow s.pins addr = true)
    (m : MasterId) (k : AccessKind) :
    exec (.passedAccess m addr k) s = exec (.registerWrite (addr.extractLsb' 0 10) (toRegAccess k)) s := by
  have offset : addr.extractLsb' 0 10 = addr.setWidth 10 := (BitVec.setWidth_eq_extractLsb' (by decide)).symm
  have decided : s.windowAccess m addr k = s.registerAccess (addr.setWidth 10) (toRegAccess k) := by
    rw [State.windowAccess, if_pos hw]
  rw [offset]
  refine congrArg Host.Outcome.next (State.present_congr ?_ decided)
  rw [toRegAccess_bytes, aligned_offset]

theorem Reg.offset_presented (r : Reg) : aligned (BitVec.ofNat 10 r.offset).toNat 4 = true := by
  rw [BitVec.toNat_ofNat, Nat.mod_eq_of_lt r.offset_lt, aligned, r.offset_aligned]
  rfl

theorem exec_registerWrite_write (r : Reg) (v : Word) (s : State) :
    exec (.registerWrite (BitVec.ofNat 10 r.offset) (.write4 v)) s = .next (s.present true fun s => s.writeReg r v) :=
  congrArg Host.Outcome.next
    (State.present_congr r.offset_presented (s.registerAccess_write (regAt_offset r) v))

theorem exec_registerWrite_read (r : Reg) (s : State) :
    exec (.registerWrite (BitVec.ofNat 10 r.offset) .read4) s = .next (s.present true fun s => s.readAccess r) :=
  congrArg Host.Outcome.next (State.present_congr r.offset_presented (s.registerAccess_read (regAt_offset r)))

/-! ## A command register by its code -/

theorem commandCode_of_mod {v : Word} {n : Nat} (h : v.toNat % 16 = n) : commandCode v = BitVec.ofNat 4 n :=
  BitVec.eq_of_toNat_eq (by rw [commandCode_toNat, BitVec.toNat_ofNat]; omega)

/-- A command with a row of its own is the command that its code names at the port's control register (Table 11-7). -/
theorem exec_portCommand (p : PortId) (v : Word) (s : State) :
    exec (match v.toNat % 16 with
      | 1 => .enable p | 2 => .disable p | 3 => .resume p | 4 => .flush p | 5 => .restart p | 6 => .ackAttention p
      | _ => .portCommandUnknown p v) s = .next (s.presentCommand fun s => s.portCommand p (commandCode v)) := by
  split
  case h_7 => rfl
  all_goals
    rename_i code
    rw [commandCode_of_mod code]
    rfl

theorem exec_slotCommand (n : SlotId) (v : Word) (s : State) :
    exec (match v.toNat % 16 with
      | 1 => .submit n | 2 => .cancel n | 3 => .release n | _ => .slotCommandUnknown n v) s =
      .next (s.presentCommand fun s => s.slotCommand n (commandCode v)) := by
  split
  case h_4 => rfl
  all_goals
    rename_i code
    rw [commandCode_of_mod code]
    rfl

theorem exec_eventCommand (v : Word) (s : State) :
    exec (if v.toNat % 16 = 1 then .pop else .eventCommandUnknown v) s =
      .next (s.presentCommand fun s => s.eventCommand (commandCode v)) := by
  split
  · rename_i code
    rw [commandCode_of_mod code]
    rfl
  · rfl

theorem exec_globalCommand (v : Word) (s : State) :
    exec (if v.toNat % 16 = 1 then .chipReset else .globalCommandUnknown v) s =
      .next (s.presentCommand fun s => s.globalCommand (commandCode v)) := by
  split
  · rename_i code
    rw [commandCode_of_mod code]
    rfl
  · rfl

/-- Settles O24: the row of a register and the access at its offset present the same effect. -/
theorem registerAccessAgreesWithItsRows : Obligations.RegisterAccessAgreesWithItsRows := by
  intro s p n e i v
  have write := fun r => exec_registerWrite_write r v s
  have read := fun r => exec_registerWrite_read r s
  refine ⟨fun m addr k hw => exec_passedAccess_of_inRegisterWindow hw m k, ?settings, ?commands, ?counters⟩
  case settings =>
    exact ⟨write _, write _, write _, write _, write _, write _, write _, write _, write _, write _, write _⟩
  case commands =>
    exact ⟨(write _).trans (exec_portCommand p v s).symm, (write _).trans (exec_slotCommand n v s).symm,
      (write _).trans (exec_eventCommand v s).symm, (write _).trans (exec_globalCommand v s).symm⟩
  case counters =>
    exact ⟨read _, read _, read _, read _, read _, read _, read _, read _⟩

end Sys2Proof.Machine
end

section
/-! PROOF. The records of one port's pool and the delayed-read slots that wait for them: what each move of a port makes of its
pool, and the law of the slots with some records taken from a pool whose producers have still to be given their outcome
(`State.ReadLawOwing`). -/

namespace Sys2Proof.Machine

/-! ## What a move makes of a pool -/

theorem Port.pool_of_core {q q' : Port} (e : q'.core = q.core) : q'.pool = q.pool := by
  simp only [Port.core, Prod.mk.injEq] at e
  obtain ⟨⟨priority, normal, -⟩, ⟨window, -⟩, -⟩ := e
  rw [Port.pool, Port.pool, priority, normal, window]

theorem Port.dropPartial_pool (q : Port) : q.dropPartial.pool = q.pool := Port.pool_of_core q.dropPartial_core

theorem Port.probeFallsDue_pool (q : Port) (now : Nat) : (q.probeFallsDue now).pool = q.pool :=
  Port.pool_of_core (q.probeFallsDue_core now)

theorem Port.enterProbing_pool (q : Port) (now : Nat) : (q.enterProbing now).pool = q.pool :=
  (Port.pool_of_core (q.enterProbing_core now)).trans rfl

theorem Port.clearOnRead_pool (q : Port) (r : PortReg) : (q.clearOnRead r).pool = q.pool :=
  Port.pool_of_core (q.clearOnRead_core r)

theorem Port.afterCompletion_pool (q : Port) (done : Seq) (now : Nat) : (q.afterCompletion done now).pool = q.pool := by
  unfold Port.afterCompletion
  dsimp only
  split <;> rfl

theorem Port.reportEnd_pool (q : Port) (f : BridgeFrame) (now : Nat) : (q.reportEnd f now).pool = q.pool := by
  unfold Port.reportEnd
  split
  · split <;> rfl
  · split <;> rfl

theorem Port.retried_pool (q : Port) : q.raiseRetry.beginRun.pool = q.pool := by
  unfold Port.raiseRetry
  split
  · rename_i w rest hw
    simp [Port.beginRun, Port.pool, hw]
  · rfl

theorem Port.beginBackoff_pool (q : Port) (now : Nat) : (q.beginBackoff now).pool = q.pool := by
  unfold Port.beginBackoff
  split
  · rename_i w rest hw
    simp [Port.pool, hw]
  · rfl

/-- The oldest record leaves the pool from its front (R61). -/
theorem Port.pool_of_oldest {q : Port} {w : Sent} {rest : List Sent} (hw : q.window = w :: rest) :
    q.pool = w.record :: q.dropOldest.pool := by
  simp [Port.pool, Port.dropOldest, hw]

theorem Port.join_pool (q : Port) (r : Record) : (q.join r).pool.Perm (r :: q.pool) := by
  unfold Port.join
  cases r.lane with
  | priority =>
    have young : (q.window.map Sent.record) ++ (q.priority ++ [r]) ++ q.normal =
        (q.window.map Sent.record ++ q.priority) ++ r :: q.normal := by simp
    exact (List.Perm.of_eq young).trans List.perm_middle
  | normal =>
    simp only [Port.pool, ← List.append_assoc]
    exact List.perm_append_singleton _ _

/-- A record that is issued moves from the front of its lane to the young end of the window (R13). -/
theorem Port.issue_pool (q : Port) {r : Record} {ps ns : List Record}
    (h : (r :: (ps ++ ns)).Perm (q.priority ++ q.normal)) :
    (Port.issue { q with priority := ps, normal := ns } r).pool.Perm q.pool := by
  simpa [Port.issue, Port.pool] using h.append_left (q.window.map Sent.record)

theorem Port.arbitrate_pool (q : Port) : q.arbitrate.pool.Perm q.pool := by
  obtain e | ⟨-, -, -, w, -, e⟩ | ⟨-, -, -, e⟩ | ⟨-, -, -, -, -, r, rest, hq, -, e⟩ |
    ⟨-, -, -, -, -, -, r, rest, hq, -, e⟩ := q.arbitrate_cases <;> rw [e]
  · exact .refl _
  · exact .refl _
  · exact q.issue_pool (by rw [hq]; rfl)
  · exact q.issue_pool (by rw [hq]; exact List.perm_middle.symm)

/-- The records that the hold removal takes, and those it leaves, are the pool (R85). -/
theorem Port.hold_pool (q : Port) : (q.normal.filter Record.heldBack ++ q.hold.pool).Perm q.pool := by
  have split := List.filter_append_perm Record.heldBack q.normal
  refine (List.perm_append_comm_assoc _ (q.window.map Sent.record ++ q.priority) _).trans ?_
  exact split.append_left _

/-- The records of the window go back to the lanes they came from (R14). -/
theorem Port.returnWindow_pool (q : Port) : q.returnWindow.pool.Perm q.pool := by
  have lanes : ((q.window.map Sent.record).filter (fun r => r.lane == .priority) ++
      (q.window.map Sent.record).filter (fun r => r.lane == .normal)).Perm (q.window.map Sent.record) := by
    have other : (fun r : Record => r.lane == .normal) = fun r => !(r.lane == .priority) := by
      funext r
      cases r.lane <;> rfl
    rw [other]
    exact List.filter_append_perm _ _
  have front := lanes.append_right (q.priority ++ q.normal)
  refine List.Perm.trans ?_ (front.trans (by simp [Port.pool]))
  simp only [Port.returnWindow, Port.pool, List.map_nil, List.nil_append, List.append_assoc]
  exact (List.perm_append_comm_assoc _ _ _).append_left _

/-- The records that FLUSH takes, and those it leaves, are the pool (R90). -/
theorem Port.flushLanes_pool (q : Port) : (q.queuedRecords ++ q.flushLanes.pool).Perm q.pool := by
  have priority := List.filter_append_perm Record.queued q.priority
  have normal := List.filter_append_perm Record.queued q.normal
  refine List.Perm.trans ?_ (((priority.append normal).append_left (q.window.map Sent.record)).trans (by simp [Port.pool]))
  rw [List.perm_iff_count]
  intro r
  simp only [Port.queuedRecords, Port.flushLanes, Port.pool, List.count_append]
  omega

/-! ## The records of one slot -/

/-- A record that was made for delayed-read slot `n` (R124). -/
def Record.readFor (n : SlotId) (r : Record) : Bool := r.source == .read n

theorem Record.readFor_iff {n : SlotId} {r : Record} : r.readFor n = true ↔ r.source = .read n := beq_iff_eq

theorem readRecord_readFor (n : SlotId) (remote : Word) (z : Size) : (readRecord n remote z).readFor n = true :=
  Record.readFor_iff.2 rfl

/-- Records of which those of slot `n` are QUEUED keep them when the others that are RESERVED go. -/
theorem filter_queued_readFor {n : SlotId} {l : List Record} (h : ∀ r ∈ l, r.source = .read n → r.reserved = false) :
    (l.filter Record.queued).filter (Record.readFor n) = l.filter (Record.readFor n) := by
  rw [List.filter_filter]
  refine List.filter_congr fun r hr => ?_
  cases hn : r.readFor n with
  | false => rfl
  | true => simp [Record.queued, h r hr (Record.readFor_iff.1 hn)]

@[simp] theorem Record.commit_source (data : List Byte) (r : Record) : (r.commit data).source = r.source := by
  unfold Record.commit
  split <;> rfl

/-- A commit changes a RESERVED record, and so none of a slot whose records are QUEUED (R8). -/
theorem filter_commit_readFor {n : SlotId} {l : List Record} (data : List Byte)
    (h : ∀ r ∈ l, r.source = .read n → r.reserved = false) :
    (l.map (Record.commit data)).filter (Record.readFor n) = l.filter (Record.readFor n) := by
  have source : Record.readFor n ∘ Record.commit data = Record.readFor n := by
    funext r
    simp [Record.readFor]
  rw [List.filter_map, source]
  refine List.map_congr_left (g := id) (fun r hr => ?_) |>.trans (List.map_id _)
  obtain ⟨hl, hn⟩ := List.mem_filter.1 hr
  rw [Record.commit, h r hl (Record.readFor_iff.1 hn)]
  rfl

/-! ## The law with some outcomes still owed -/

/-- Keys are distinct, and a READY slot holds as many bytes as its size (R125, R129). -/
structure State.SlotLaw (s : State) : Prop where
  keys : ∀ n m a b, s.readSlot n = some a → s.readSlot m = some b → a.key = b.key → n = m
  ready : ∀ n slot data deadline, s.readSlot n = some slot → slot.state = .ready data deadline →
    data.length = slot.key.size.bytes

/-- The laws of the delayed-read slots, where the records `rs` have left the pool of port `p` and their producers have still to be
given their outcome: a slot is PENDING exactly when one READ record names it, in its port's pool or among `rs` (R124). -/
structure State.ReadLawOwing (s : State) (p : PortId) (rs : List Record) : Prop where
  own : ∀ n, (rs ++ (s.port p).pool).filter (Record.readFor n) = s.readRecordFor n p
  others : ∀ n x, x ≠ p → (s.port x).pool.filter (Record.readFor n) = s.readRecordFor n x
  slots : s.SlotLaw

/-- The law owes nothing. -/
theorem State.readLawOwing_nil {s : State} {p : PortId} : s.ReadLawOwing p [] ↔ s.ReadLaw := by
  refine ⟨fun h => ⟨fun n x => ?_, h.slots.keys, h.slots.ready⟩,
    fun h => ⟨fun n => h.records n p, fun n x _ => h.records n x, h.keys, h.ready⟩⟩
  by_cases hx : x = p
  · rw [hx]; exact h.own n
  · exact h.others n x hx

/-- Only a PENDING slot has a record in the pool of its port, and it is the one that was made for it (R9, R124). -/
theorem State.mem_readRecordFor {s : State} {n : SlotId} {p : PortId} {r : Record} (h : r ∈ s.readRecordFor n p) :
    ∃ slot, s.readSlot n = some slot ∧ slot.state = .pending ∧ slot.port = p ∧
      r = readRecord n slot.remote slot.key.size := by
  unfold State.readRecordFor at h
  split at h
  · rename_i slot hs
    split at h
    · rename_i hc
      exact ⟨slot, hs, hc.1, hc.2, List.mem_singleton.1 h⟩
    · cases h
  · cases h

theorem State.readRecordFor_length (s : State) (n : SlotId) (p : PortId) : (s.readRecordFor n p).length ≤ 1 := by
  unfold State.readRecordFor
  split
  · split <;> simp
  · simp

theorem State.readRecordFor_of_pending {s : State} {n : SlotId} {slot : ReadSlot} (hs : s.readSlot n = some slot)
    (hp : slot.state = .pending) (x : PortId) :
    s.readRecordFor n x = if x = slot.port then [readRecord n slot.remote slot.key.size] else [] := by
  simp [State.readRecordFor, hs, hp, eq_comm]

/-- A slot that is not PENDING has no record (R124). -/
theorem State.readRecordFor_of_not_pending {s : State} {n : SlotId}
    (h : ∀ slot, s.readSlot n = some slot → slot.state ≠ .pending) (x : PortId) : s.readRecordFor n x = [] := by
  unfold State.readRecordFor
  split
  · rename_i slot hs
    exact if_neg fun hc => h slot hs hc.1
  · rfl

theorem State.readRecordFor_congr {s t : State} {n : SlotId} (h : t.readSlot n = s.readSlot n) (x : PortId) :
    t.readRecordFor n x = s.readRecordFor n x := by
  rw [State.readRecordFor, State.readRecordFor, h]

theorem State.SlotLaw.congr {s t : State} (h : s.SlotLaw) (e : ∀ n, t.readSlot n = s.readSlot n) : t.SlotLaw where
  keys n m a b ha hb := h.keys n m a b ((e n).symm.trans ha) ((e m).symm.trans hb)
  ready n slot data deadline hs := h.ready n slot data deadline ((e n).symm.trans hs)

/-- A record of the pool or still owed that names a slot is the one made for it, and the slot is PENDING. -/
theorem State.ReadLawOwing.pending {s : State} {p : PortId} {rs : List Record} (h : s.ReadLawOwing p rs) {r : Record}
    (hr : r ∈ rs ++ (s.port p).pool) {n : SlotId} (hn : r.source = .read n) :
    ∃ slot, s.readSlot n = some slot ∧ slot.state = .pending ∧ slot.port = p ∧
      r = readRecord n slot.remote slot.key.size :=
  State.mem_readRecordFor (h.own n ▸ List.mem_filter.2 ⟨hr, Record.readFor_iff.2 hn⟩)

/-- READ records are never RESERVED. -/
theorem State.ReadLaw.unreserved {s : State} (h : s.ReadLaw) {p : PortId} {r : Record} (hr : r ∈ (s.port p).pool) {n : SlotId}
    (hn : r.source = .read n) : r.reserved = false := by
  obtain ⟨slot, -, -, -, rfl⟩ := (State.readLawOwing_nil.2 h).pending (p := p) hr hn
  rfl

/-- The slots stand, and the READ records of the pool and of those owed are the same but for their order. -/
theorem State.ReadLawOwing.of_perm {s t : State} {p : PortId} {rs rs' : List Record} (h : s.ReadLawOwing p rs)
    (slots : ∀ n, t.readSlot n = s.readSlot n) (others : ∀ x, x ≠ p → (t.port x).pool = (s.port x).pool)
    (own : ∀ n, ((rs' ++ (t.port p).pool).filter (Record.readFor n)).Perm
      ((rs ++ (s.port p).pool).filter (Record.readFor n))) : t.ReadLawOwing p rs' where
  own n := by
    have one := s.readRecordFor_length n p
    have same := own n
    rw [h.own n] at same
    rw [State.readRecordFor_congr (slots n)]
    match s.readRecordFor n p, one, same with
    | [], _, same => exact same.eq_nil
    | [r], _, same => exact List.perm_singleton.1 same
  others n x hx := by rw [others x hx, h.others n x hx, State.readRecordFor_congr (slots n)]
  slots := h.slots.congr slots

/-- A change of one port whose pool, with what it owes, stays the same but for the order. -/
theorem State.ReadLawOwing.modPort {s : State} {p : PortId} {rs rs' : List Record} (h : s.ReadLawOwing p rs)
    {f : Port → Port} (e : (rs' ++ (f (s.port p)).pool).Perm (rs ++ (s.port p).pool)) :
    (s.modPort p f).ReadLawOwing p rs' :=
  h.of_perm (fun _ => rfl) (fun x hx => by rw [State.modPort_port_ne _ _ hx])
    (fun n => by rw [State.modPort_port_self]; exact e.filter _)

/-! ## Outcomes -/

/-- The state a slot takes from an outcome is not PENDING (Table 8-4). -/
theorem ReadState.ofLeaving_ne_pending (l : Leaving) (deadline : Nat) : ReadState.ofLeaving l deadline ≠ .pending := by
  cases l <;> exact ReadState.noConfusion

/-- Slots that keep their keys, and whose data is as long as it was asked for, keep the slots' own laws. -/
theorem State.SlotLaw.mono {s t : State} (h : s.SlotLaw)
    (e : ∀ n b, t.readSlot n = some b → ∃ a, s.readSlot n = some a ∧ b.key = a.key ∧
      (b.state = a.state ∨ ∀ data deadline, b.state = .ready data deadline → data.length = b.key.size.bytes)) :
    t.SlotLaw where
  keys n m a b ha hb hk := by
    obtain ⟨a', ha', hka, -⟩ := e n a ha
    obtain ⟨b', hb', hkb, -⟩ := e m b hb
    exact h.keys n m a' b' ha' hb' (hka.symm.trans (hk.trans hkb))
  ready n slot data deadline hs hx := by
    obtain ⟨a, ha, hk, hsame | hlen⟩ := e n slot hs
    · rw [hk]
      exact h.ready n a data deadline ha (hsame.symm.trans hx)
    · exact hlen data deadline hx

/-- An outcome leaves every pool as it is: it reaches the posted-write counters at most. -/
theorem State.settle_pool (s : State) (p : PortId) (r : Record) (l : Leaving) (x : PortId) :
    ((s.settle p r l).port x).pool = (s.port x).pool := by
  rw [State.settle_port]
  split
  · rename_i hx
    rw [hx.2]
    cases l <;> rfl
  · rfl

/-- The outcome of a record that is not a READ record reaches no slot (Table 3-4). -/
theorem State.ReadLawOwing.settle_other {s : State} {p : PortId} {r : Record} {rs : List Record}
    (h : s.ReadLawOwing p (r :: rs)) (hr : ∀ n, r.source ≠ .read n) (l : Leaving) : (s.settle p r l).ReadLawOwing p rs := by
  refine h.of_perm (fun n => by rw [State.settle_readSlot, if_neg (hr n)]) (fun x _ => s.settle_pool p r l x) fun n => ?_
  rw [s.settle_pool, List.cons_append, List.filter_cons_of_neg (mt Record.readFor_iff.1 (hr n))]

/-- The outcome of a READ record takes its slot out of PENDING (Table 8-4): nothing is owed for the record, and no other record
names the slot. A read that completes OK has brought as many bytes as it asked for. -/
theorem State.ReadLawOwing.settle_read {s : State} {p : PortId} {r : Record} {rs : List Record}
    (h : s.ReadLawOwing p (r :: rs)) {m : SlotId} (hr : r.source = .read m) {l : Leaving}
    (bytes : ∀ data, l = .ok data → data.length = r.length) : (s.settle p r l).ReadLawOwing p rs := by
  obtain ⟨slot, hs, hp, rfl, hrec⟩ := h.pending (List.mem_cons_self ..) hr
  have now : (s.settle slot.port r l).readSlot m =
      some { slot with state := ReadState.ofLeaving l (s.reads.deadline s.now) } := by
    simp [State.settle_readSlot, hr, hs, hp]
  have apart : ∀ n, n ≠ m → (s.settle slot.port r l).readSlot n = s.readSlot n := fun n hn => by
    rw [State.settle_readSlot, hr, if_neg fun hc => hn (Source.read.inj hc).symm]
  have gone : ∀ x, (s.settle slot.port r l).readRecordFor m x = [] := State.readRecordFor_of_not_pending fun a ha => by
    rw [now, Option.some.injEq] at ha
    exact ha ▸ ReadState.ofLeaving_ne_pending l _
  have own := h.own m
  rw [State.readRecordFor_of_pending hs hp, if_pos rfl, List.cons_append,
    List.filter_cons_of_pos (Record.readFor_iff.2 hr)] at own
  refine ⟨fun n => ?_, fun n x hx => ?_, h.slots.mono fun n b hb => ?_⟩
  · rw [s.settle_pool]
    by_cases hn : n = m
    · rw [hn, gone]
      exact (List.cons.inj own).2
    · have names : r.readFor n ≠ true := fun hc => hn (Source.read.inj ((Record.readFor_iff.1 hc).symm.trans hr))
      rw [State.readRecordFor_congr (apart n hn), ← h.own n, List.cons_append, List.filter_cons_of_neg names]
  · rw [s.settle_pool, h.others n x hx]
    by_cases hn : n = m
    · rw [hn, gone, State.readRecordFor_of_pending hs hp, if_neg hx]
    · rw [State.readRecordFor_congr (apart n hn)]
  · by_cases hn : n = m
    · subst hn
      rw [now, Option.some.injEq] at hb
      subst hb
      refine ⟨slot, hs, rfl, .inr fun data deadline hready => ?_⟩
      cases l with
      | ok d =>
        cases hready
        rw [bytes _ rfl, hrec]
        rfl
      | _ => cases hready
    · exact ⟨b, (apart n hn).symm.trans hb, rfl, .inl rfl⟩

/-- A record's producer is given its outcome, and the record is no longer owed (Table 3-4). -/
theorem State.ReadLawOwing.settle {s : State} {p : PortId} {r : Record} {rs : List Record} (h : s.ReadLawOwing p (r :: rs))
    {l : Leaving} (bytes : ∀ data, l = .ok data → r.operation = .read → data.length = r.length) :
    (s.settle p r l).ReadLawOwing p rs := by
  by_cases hr : ∃ m, r.source = .read m
  · obtain ⟨m, hm⟩ := hr
    obtain ⟨slot, -, -, -, hrec⟩ := h.pending (List.mem_cons_self ..) hm
    exact h.settle_read hm fun data hl => bytes data hl (by rw [hrec]; rfl)
  · exact h.settle_other (fun n hn => hr ⟨n, hn⟩) l

/-- Removed records have their outcome given one after the other (R85, R90, R95). -/
theorem State.ReadLawOwing.settleAll {s : State} {p : PortId} {rs : List Record} (h : s.ReadLawOwing p rs) (cause : Cause) :
    (s.settleAll p cause rs).ReadLaw := by
  induction rs generalizing s with
  | nil => exact State.readLawOwing_nil.1 h
  | cons r rs ih => exact ih (h.settle (l := .removed cause) fun _ hl => by cases hl)

end Sys2Proof.Machine
end

section
/-! PROOF. O11: every happening keeps the laws of the delayed-read slots, operation by operation. -/

namespace Sys2Proof.Machine

/-! ## Updates that reach no READ record and no slot -/

namespace State.ReadLaw

section
variable {s : State}

/-- The laws speak of the pools and the slots alone. -/
theorem of_eq {t : State} (h : s.ReadLaw) (ports : t.ports = s.ports) (slots : t.reads.slots = s.reads.slots) : t.ReadLaw := by
  have read : ∀ n, t.readSlot n = s.readSlot n := fun n => by rw [State.readSlot, slots]; rfl
  have port : ∀ x, t.port x = s.port x := fun x => by rw [State.port, ports]; rfl
  have owing : s.ReadLawOwing 0 [] := State.readLawOwing_nil.2 h
  exact State.readLawOwing_nil.1 (owing.of_perm read (fun x _ => by rw [port]) fun n => by rw [port])

theorem withAnswer (h : s.ReadLaw) (a : Answer) : (s.withAnswer a).ReadLaw := h.of_eq rfl rfl

theorem offer (h : s.ReadLaw) (o : Offer) : (s.offer o).ReadLaw := h.of_eq rfl rfl

theorem pass (h : s.ReadLaw) (a : HeldAccess) : (s.pass a).ReadLaw := h.of_eq rfl rfl

theorem setTarget (h : s.ReadLaw) (t : HostTarget) : (s.setTarget t).ReadLaw := h.of_eq rfl rfl

theorem setRequest (h : s.ReadLaw) (n : SlotId) (q : RequestSlot) : (s.setRequest n q).ReadLaw := h.of_eq rfl rfl

theorem completeRequest (h : s.ReadLaw) (n : SlotId) (c : Cause) (b : Vector Byte 16) : (s.completeRequest n c b).ReadLaw :=
  h.of_eq (s.completeRequest_ports n c b) (by rw [State.completeRequest_reads])

theorem offerFlushed (h : s.ReadLaw) (p : PortId) (rs : List Record) : (s.offerFlushed p rs).ReadLaw := by
  unfold State.offerFlushed
  split
  · exact h
  · exact h.offer _

/-- A change of one port that keeps its READ records. -/
theorem modPort_of_reads (h : s.ReadLaw) (p : PortId) {f : Port → Port}
    (e : ∀ n, ((f (s.port p)).pool.filter (Record.readFor n)).Perm ((s.port p).pool.filter (Record.readFor n))) :
    (s.modPort p f).ReadLaw :=
  State.readLawOwing_nil.1 ((State.readLawOwing_nil.2 h).of_perm (fun _ => rfl)
    (fun x hx => by rw [State.modPort_port_ne _ _ hx]) fun n => by rw [State.modPort_port_self]; exact e n)

/-- A change of one port that keeps its records. -/
theorem modPort (h : s.ReadLaw) (p : PortId) {f : Port → Port} (e : (f (s.port p)).pool.Perm (s.port p).pool) :
    (s.modPort p f).ReadLaw := h.modPort_of_reads p fun _ => e.filter _

/-- A change of one port that leaves its pool alone. -/
theorem modPort_of_pool (h : s.ReadLaw) (p : PortId) {f : Port → Port} (e : (f (s.port p)).pool = (s.port p).pool) :
    (s.modPort p f).ReadLaw := h.modPort p (.of_eq e)

theorem arbitrate (h : s.ReadLaw) (p : PortId) : (s.arbitrate p).ReadLaw := h.modPort p (s.port p).arbitrate_pool

/-- A record that is not a READ record joins its lane. -/
theorem join (h : s.ReadLaw) (p : PortId) {r : Record} (hr : ∀ n, r.source ≠ .read n) :
    (s.modPort p (·.join r)).ReadLaw := by
  refine h.modPort_of_reads p fun n => (((s.port p).join_pool r).filter _).trans (.of_eq ?_)
  exact List.filter_cons_of_neg (mt Record.readFor_iff.1 (hr n))

/-! ## Slots that become FREE or are claimed -/

/-- Slots that are not PENDING may become FREE: no record names them (R124). -/
theorem of_freed (h : s.ReadLaw) {t : State} (ports : t.ports = s.ports)
    (e : ∀ n, t.readSlot n = s.readSlot n ∨
      t.readSlot n = none ∧ ∀ slot, s.readSlot n = some slot → slot.state ≠ .pending) : t.ReadLaw := by
  have stands : ∀ n slot, t.readSlot n = some slot → s.readSlot n = some slot := by
    intro n slot hn
    obtain same | ⟨free, -⟩ := e n
    · exact same.symm.trans hn
    · cases free.symm.trans hn
  refine ⟨fun n p => ?_, fun n m a b ha hb => h.keys n m a b (stands n a ha) (stands m b hb),
    fun n slot data deadline hs => h.ready n slot data deadline (stands n slot hs)⟩
  rw [State.port, ports]
  obtain same | ⟨free, idle⟩ := e n
  · rw [State.readRecordFor_congr same]
    exact h.records n p
  · rw [State.readRecordFor_of_not_pending (s := t) fun slot hs => by cases free.symm.trans hs]
    exact (h.records n p).trans (State.readRecordFor_of_not_pending idle p)

theorem freeSlot (h : s.ReadLaw) {n : SlotId} (idle : ∀ slot, s.readSlot n = some slot → slot.state ≠ .pending) :
    (s.setReadSlot n none).ReadLaw := by
  refine h.of_freed rfl fun m => ?_
  rw [State.setReadSlot_readSlot]
  by_cases hm : m = n
  · exact .inr ⟨if_pos hm, hm ▸ idle⟩
  · exact .inl (if_neg hm)

/-- The invalidation check frees READY slots alone (R11). -/
theorem invalidate (h : s.ReadLaw) (p : PortId) (r : Record) : (s.invalidate p r).ReadLaw := by
  refine h.of_freed rfl fun n => ?_
  rw [State.invalidate, State.setReads_readSlot, DelayedReads.invalidate_slots]
  split
  · rename_i struck
    refine .inr ⟨rfl, fun slot hs hp => ?_⟩
    rw [State.readSlot] at hs
    simp [DelayedReads.struck, hs, ReadSlot.invalidatedBy, hp] at struck
  · exact .inl rfl

/-- A FREE slot that is claimed for a read owes the record of the read (R9, R127). -/
theorem claim (h : s.ReadLaw) {n : SlotId} (free : s.readSlot n = none) {k : ReadKey}
    (fresh : ∀ m slot, s.readSlot m = some slot → slot.key ≠ k) (p : PortId) (remote : Word) :
    (s.setReadSlot n (some ⟨k, p, remote, .pending⟩)).ReadLawOwing p [readRecord n remote k.size] := by
  have claimed : (s.setReadSlot n (some ⟨k, p, remote, .pending⟩)).readSlot n = some ⟨k, p, remote, .pending⟩ := by
    rw [State.setReadSlot_readSlot, if_pos rfl]
  have apart : ∀ m, m ≠ n → (s.setReadSlot n (some ⟨k, p, remote, .pending⟩)).readSlot m = s.readSlot m := fun m hm => by
    rw [State.setReadSlot_readSlot, if_neg hm]
  have unnamed : ∀ x, (s.port x).pool.filter (Record.readFor n) = [] := fun x =>
    (h.records n x).trans (State.readRecordFor_of_not_pending (fun slot hs => by cases free.symm.trans hs) x)
  refine ⟨fun m => ?_, fun m x hx => ?_, ⟨fun i j a b ha hb hk => ?_, fun m slot data deadline hs hx => ?_⟩⟩
  · by_cases hm : m = n
    · subst hm
      rw [State.readRecordFor_of_pending claimed rfl, if_pos rfl, List.filter_append, State.setReadSlot_port, unnamed]
      simp [readRecord_readFor]
    · rw [State.readRecordFor_congr (apart m hm), ← h.records m p]
      exact List.filter_cons_of_neg fun hc => hm (Source.read.inj (Record.readFor_iff.1 hc)).symm
  · by_cases hm : m = n
    · subst hm
      rw [State.readRecordFor_of_pending claimed rfl, if_neg hx]
      exact unnamed x
    · rw [State.readRecordFor_congr (apart m hm)]
      exact h.records m x
  · by_cases hi : i = n <;> by_cases hj : j = n
    · exact hi.trans hj.symm
    · subst hi
      rw [claimed, Option.some.injEq] at ha
      exact absurd (hk.symm.trans (ha ▸ rfl)) (fresh j b ((apart j hj).symm.trans hb))
    · subst hj
      rw [claimed, Option.some.injEq] at hb
      exact absurd (hk.trans (hb ▸ rfl)) (fresh i a ((apart i hi).symm.trans ha))
    · exact h.keys i j a b ((apart i hi).symm.trans ha) ((apart j hj).symm.trans hb) hk
  · by_cases hm : m = n
    · subst hm
      rw [claimed, Option.some.injEq] at hs
      subst hs
      cases hx
    · exact h.ready m slot data deadline ((apart m hm).symm.trans hs) hx

/-! ## The hold, the loss of a link and the sequencer -/

theorem hold (h : s.ReadLaw) (p : PortId) : (s.hold p).ReadLaw :=
  ((State.readLawOwing_nil.2 h).modPort (s.port p).hold_pool).settleAll .held

theorem loseLink (h : s.ReadLaw) (p : PortId) (cause : Cause) : (s.loseLink p cause).ReadLaw := by
  refine State.ReadLaw.hold (State.ReadLaw.offer (h.modPort p ?_) _) p
  exact (s.port p).returnWindow_pool

/-- The oldest record leaves the pool, and its producer is given its outcome (R61). -/
theorem settleOldest (h : s.ReadLaw) (p : PortId) {w : Sent} {rest : List Sent} (hw : (s.port p).window = w :: rest)
    {l : Leaving} (bytes : ∀ data, l = .ok data → w.record.operation = .read → data.length = w.record.length) :
    ((s.modPort p Port.dropOldest).settle p w.record l).ReadLaw := by
  have owing := (State.readLawOwing_nil.2 h).modPort (rs' := [w.record]) (.of_eq (Port.pool_of_oldest hw).symm)
  exact State.readLawOwing_nil.1 (owing.settle bytes)

theorem exhaust (h : s.ReadLaw) (p : PortId) {w : Sent} {rest : List Sent} (hw : (s.port p).window = w :: rest)
    (cause : Cause) : (s.exhaust p w cause).ReadLaw :=
  (h.settleOldest p hw (l := .failed cause w.seq) fun _ hl => by cases hl).loseLink p cause

theorem complete (h : s.ReadLaw) (p : PortId) {w : Sent} {rest : List Sent} (hw : (s.port p).window = w :: rest)
    {l : Leaving} (bytes : ∀ data, l = .ok data → w.record.operation = .read → data.length = w.record.length) :
    (s.complete p w l).ReadLaw := by
  have settled := h.settleOldest p hw bytes
  unfold State.complete
  dsimp only
  refine State.ReadLaw.arbitrate (State.ReadLaw.modPort_of_pool (f := (·.afterCompletion w.seq _)) ?_ p
    (Port.afterCompletion_pool _ _ _)) p
  split
  · exact settled.hold p
  · exact settled

theorem retryOldest (h : s.ReadLaw) (p : PortId) : (s.retryOldest p).ReadLaw := by
  obtain ⟨-, e⟩ | ⟨w, rest, hw, ⟨-, e⟩ | ⟨-, e⟩⟩ := s.retryOldest_cases p <;> rw [e]
  · exact h
  · exact (h.modPort_of_pool p (f := fun q => q.raiseRetry.beginRun) (Port.retried_pool _)).arbitrate p
  · exact h.exhaust p hw _

theorem busyRefusal (h : s.ReadLaw) (p : PortId) : (s.busyRefusal p).ReadLaw := by
  obtain ⟨-, e⟩ | ⟨w, rest, hw, ⟨-, e⟩ | ⟨-, e⟩⟩ := s.busyRefusal_cases p <;> rw [e]
  · exact h
  · exact h.modPort_of_pool p (Port.beginBackoff_pool _ _)
  · exact h.exhaust p hw _

theorem stale (h : s.ReadLaw) (p : PortId) : (s.stale p).ReadLaw := h.modPort_of_pool p rfl

theorem outOfOrder (h : s.ReadLaw) (p : PortId) : (s.outOfOrder p).ReadLaw := by
  unfold State.outOfOrder
  split
  · exact (h.stale p).retryOldest p
  · exact h.stale p

/-! ## Frames of a station -/

theorem respond (h : s.ReadLaw) (p : PortId) (r : Seq) {act : Sent → State}
    (oldest : ∀ w rest, (s.port p).window = w :: rest → (act w).ReadLaw) : (s.respond p r act).ReadLaw := by
  obtain e | ⟨-, -, -, -, e⟩ | ⟨-, w, rest, hw, -, e⟩ := s.respond_cases p r act <;> rw [e]
  · exact h.stale p
  · exact h.outOfOrder p
  · exact oldest w rest hw

/-- An ACK completes a WRITE record, which brings no bytes (R51). -/
theorem ackResponse (h : s.ReadLaw) (p : PortId) (r : Seq) : (s.ackResponse p r).ReadLaw := by
  refine h.respond p r fun w rest hw => ?_
  split
  · rename_i hwrite
    exact h.complete p hw fun _ _ hread => by cases hwrite.symm.trans hread
  · exact h.loseLink p _

/-- A DATA frame completes a READ record only with as many bytes as it asked for (R51, R52). -/
theorem dataResponse (h : s.ReadLaw) (p : PortId) (r : Seq) (d : List Byte) : (s.dataResponse p r d).ReadLaw := by
  refine h.respond p r fun w rest hw => ?_
  split
  · split
    · rename_i hlen
      exact h.complete p hw fun _ hl _ => Leaving.ok.inj hl ▸ hlen
    · exact h.loseLink p _
  · exact h.loseLink p _

theorem sequenceRefusal (h : s.ReadLaw) (p : PortId) (e : Seq) : (s.sequenceRefusal p e).ReadLaw := by
  unfold State.sequenceRefusal
  dsimp only
  repeat' split
  · exact h.stale p
  · exact h.stale p
  · exact h.retryOldest p
  · exact h.loseLink p _

/-- A refusal of the oldest brings no bytes (R53). -/
theorem refused (h : s.ReadLaw) (p : PortId) (r : Seq) (cause : Cause) :
    (s.respond p r fun oldest => s.complete p oldest (.refused cause oldest.seq)).ReadLaw :=
  h.respond p r fun _ _ hw => h.complete p hw fun _ hl => by cases hl

theorem rejectResponse (h : s.ReadLaw) (p : PortId) (r : Seq) (c : RejectCause) (e : Seq) :
    (s.rejectResponse p r c e).ReadLaw := by
  cases c with
  | sequence => exact h.sequenceRefusal p e
  | busy =>
    refine h.respond p r fun w rest _ => ?_
    split
    · exact h.stale p
    · exact h.busyRefusal p
  | address => exact h.refused p r .address
  | denied => exact h.refused p r .denied

theorem identFrame (h : s.ReadLaw) (p : PortId) (r : Seq) (c : BitVec 16) (v w : Byte) : (s.identFrame p r c v w).ReadLaw := by
  unfold State.identFrame
  dsimp only
  split
  · refine State.ReadLaw.arbitrate (State.ReadLaw.offer (State.ReadLaw.modPort_of_pool ?_ p rfl) _) p
    split
    · exact h.offer _
    · exact h
  · exact h.stale p

theorem takeAttention (h : s.ReadLaw) (p : PortId) (flag : Bool) : (s.takeAttention p flag).ReadLaw := by
  unfold State.takeAttention
  split
  · exact State.ReadLaw.offer (h.modPort_of_pool p rfl) _
  · exact h

theorem deliver (h : s.ReadLaw) (p : PortId) (f : StationFrame) : (s.deliver p f).ReadLaw := by
  unfold State.deliver
  dsimp only
  refine State.ReadLaw.takeAttention ?_ p _
  split
  · exact h.ackResponse p _
  · exact h.dataResponse p _ _
  · exact h.rejectResponse p _ _ _
  · exact h.identFrame p _ _ _ _

theorem reception (h : s.ReadLaw) (p : PortId) (r : Reception) : (s.reception p r).ReadLaw := by
  cases r with
  | malformed => exact h.modPort_of_pool p rfl
  | crcError => exact h.modPort_of_pool p rfl
  | good f => exact h.deliver p f

theorem lineByte (h : s.ReadLaw) (p : PortId) (b : Byte) : (s.lineByte p b).ReadLaw := by
  have taken (r : Receiver) : (s.modPort p fun q => { q with receiver := r }).ReadLaw := h.modPort_of_pool p rfl
  unfold State.lineByte
  dsimp only
  split
  · split
    · exact taken _
    · exact (taken _).reception p _
  · exact h

theorem stationFrame (h : s.ReadLaw) (p : PortId) (f : StationFrame) : (s.stationFrame p f).ReadLaw := by
  have hunting : (s.modPort p Port.toHunt).ReadLaw := h.modPort_of_pool p rfl
  obtain ⟨-, e⟩ | ⟨-, -, e⟩ | ⟨-, -, e⟩ := s.stationFrame_cases p f <;> rw [e]
  · exact h
  · exact hunting.deliver p f
  · exact hunting.modPort_of_pool p rfl

/-! ## Carrier, transmitter and timers -/

theorem loseCarrier (h : s.ReadLaw) (p : PortId) : (s.loseCarrier p).ReadLaw := by
  have dropped : (s.modPort p fun q => q.dropPartial.setCarrier false).ReadLaw :=
    h.modPort_of_pool p (s.port p).dropPartial_pool
  unfold State.loseCarrier
  dsimp only
  split
  · split
    · exact dropped.loseLink p _
    · exact dropped
  · exact h

theorem regainCarrier (h : s.ReadLaw) (p : PortId) : (s.regainCarrier p).ReadLaw := by
  unfold State.regainCarrier
  split
  · exact h
  · exact h.modPort_of_pool p rfl

theorem endTransmission (h : s.ReadLaw) (p : PortId) : (s.endTransmission p).ReadLaw := by
  unfold State.endTransmission
  split
  · exact h
  · rename_i x _
    exact (h.modPort_of_pool p (f := fun q => Port.reportEnd { q with transmitter := none } x.frame s.now)
      (Port.reportEnd_pool _ _ _)).arbitrate p

theorem expireResponseTimer (h : s.ReadLaw) (p : PortId) : (s.expireResponseTimer p).ReadLaw := by
  unfold State.expireResponseTimer
  split
  · exact h
  · exact State.ReadLaw.retryOldest (h.modPort_of_pool p rfl) p

theorem endBackoff (h : s.ReadLaw) (p : PortId) : (s.endBackoff p).ReadLaw := by
  unfold State.endBackoff
  split
  · exact h
  · exact State.ReadLaw.arbitrate (h.modPort_of_pool p rfl) p

theorem expireResponseWait (h : s.ReadLaw) (p : PortId) : (s.expireResponseWait p).ReadLaw := by
  unfold State.expireResponseWait
  split
  · exact h.modPort_of_pool p rfl
  · exact h

theorem expireProbeInterval (h : s.ReadLaw) (p : PortId) : (s.expireProbeInterval p).ReadLaw := by
  unfold State.expireProbeInterval
  split
  · exact (h.modPort_of_pool p (f := (·.probeFallsDue s.now)) (Port.probeFallsDue_pool _ _)).arbitrate p
  · exact h

theorem expireReprobeInterval (h : s.ReadLaw) (p : PortId) : (s.expireReprobeInterval p).ReadLaw := by
  unfold State.expireReprobeInterval
  split
  · exact (h.modPort_of_pool p (f := (·.enterProbing s.now)) (Port.enterProbing_pool _ _)).arbitrate p
  · exact h

/-- The discard timer frees a READY or FAILED slot (R132). -/
theorem expireDiscardTimer (h : s.ReadLaw) (n : SlotId) : (s.expireDiscardTimer n).ReadLaw := by
  unfold State.expireDiscardTimer
  split
  · exact h
  · rename_i slot hs
    have freed (idle : slot.state ≠ .pending) : (s.setReadSlot n none).ReadLaw := h.freeSlot fun x hx => by
      rwa [Option.some.inj (hx.symm.trans hs)]
    split
    · exact h
    · rename_i hx
      exact (freed fun hp => by cases hp.symm.trans hx).offer _
    · rename_i hx
      exact (freed fun hp => by cases hp.symm.trans hx).offer _

/-! ## Port and slot commands -/

theorem portResult (h : s.ReadLaw) (p : PortId) (r : CommandResult) : (s.portResult p r).ReadLaw := h.modPort_of_pool p rfl

theorem enablePort (h : s.ReadLaw) (p : PortId) : (s.enablePort p).ReadLaw := by
  unfold State.enablePort
  split
  · have probing := h.modPort_of_pool p
      (f := fun q => Port.enterProbing { q with nextSeq := 0, receiver := .hunt false } s.now) (Port.enterProbing_pool _ _)
    exact (probing.portResult p _).arbitrate p
  · exact h.portResult p _

/-- DISABLE takes every record but a RESERVED one, which is no READ record (R95). -/
theorem disablePort (h : s.ReadLaw) (p : PortId) : (s.disablePort p).ReadLaw := by
  unfold State.disablePort
  split
  · exact h.portResult p _
  · refine State.ReadLaw.offerFlushed (State.ReadLawOwing.settleAll ?_ .disabled) p _
    refine (State.readLawOwing_nil.2 h).of_perm (fun _ => rfl) (fun x hx => by rw [State.modPort_port_ne _ _ hx]) fun n => ?_
    have lane {l : List Record} (hl : ∀ r ∈ l, r ∈ (s.port p).pool) :
        (l.filter Record.queued).filter (Record.readFor n) = l.filter (Record.readFor n) :=
      filter_queued_readFor fun r hr => h.unreserved (hl r hr)
    have empty : (s.port p).tornDown.pool = [] := rfl
    rw [State.modPort_port_self, empty, List.append_nil, List.nil_append, Port.allRecords, Port.queuedRecords, Port.pool,
      List.filter_append, List.filter_append, List.filter_append, List.filter_append, List.append_assoc,
      lane fun r hr => by simp [Port.pool, hr], lane fun r hr => by simp [Port.pool, hr]]

theorem resumePort (h : s.ReadLaw) (p : PortId) : (s.resumePort p).ReadLaw := by
  unfold State.resumePort
  split
  · exact State.ReadLaw.arbitrate (h.modPort_of_pool p rfl) p
  · exact h.portResult p _

theorem flushPort (h : s.ReadLaw) (p : PortId) : (s.flushPort p).ReadLaw := by
  unfold State.flushPort
  split
  · exact h.portResult p _
  · have owing := (State.readLawOwing_nil.2 h).modPort (f := fun q => q.flushLanes.withResult .done) (s.port p).flushLanes_pool
    exact (owing.settleAll .flushed).offerFlushed p _

theorem restartPort (h : s.ReadLaw) (p : PortId) : (s.restartPort p).ReadLaw := by
  unfold State.restartPort
  split
  · exact State.ReadLaw.arbitrate (h.modPort_of_pool p (f := fun q => (q.enterProbing s.now).withResult .done)
      ((s.port p).enterProbing_pool s.now)) p
  · exact h.portResult p _

theorem ackAttention (h : s.ReadLaw) (p : PortId) : (s.ackAttention p).ReadLaw := by
  unfold State.ackAttention
  split
  · exact h.portResult p _
  · exact h.modPort_of_pool p rfl

theorem portCommand (h : s.ReadLaw) (p : PortId) (code : BitVec 4) : (s.portCommand p code).ReadLaw := by
  unfold State.portCommand
  repeat' split
  · exact h.enablePort p
  · exact h.disablePort p
  · exact h.resumePort p
  · exact h.flushPort p
  · exact h.restartPort p
  · exact h.ackAttention p
  · exact h.portResult p _

theorem slotResult (h : s.ReadLaw) (n : SlotId) (r : CommandResult) : (s.slotResult n r).ReadLaw := h.setRequest n _

theorem admitRequest (h : s.ReadLaw) (n : SlotId) : (s.admitRequest n).ReadLaw := by
  have joined : ((s.modPort (s.request n).port (·.join (requestRecord n (s.request n)))).setRequest n
      { s.request n with state := .submitted }).ReadLaw := (h.join _ fun _ => Source.noConfusion).setRequest n _
  unfold State.admitRequest
  dsimp only
  split
  · exact (joined.invalidate _ _).arbitrate _
  · exact joined.arbitrate _

theorem submitRequest (h : s.ReadLaw) (n : SlotId) : (s.submitRequest n).ReadLaw := by
  unfold State.submitRequest
  dsimp only
  split
  · split
    · exact (h.slotResult n _).admitRequest n
    · exact (h.slotResult n _).completeRequest n _ _
  · exact h.slotResult n _

/-- CANCEL takes a REQUEST record (R141). -/
theorem withdraw (h : s.ReadLaw) (p : PortId) (n : SlotId) : (s.modPort p (·.withdraw n)).ReadLaw := by
  refine h.modPort_of_reads p fun m => .of_eq ?_
  have lane (l : List Record) :
      (l.filter (fun r => !r.queuedFor n)).filter (Record.readFor m) = l.filter (Record.readFor m) := by
    rw [List.filter_filter]
    refine List.filter_congr fun r _ => ?_
    cases hm : r.readFor m with
    | false => rfl
    | true => simp [Record.queuedFor, Record.readFor_iff.1 hm]
  simp only [Port.pool, Port.withdraw, List.filter_append, lane]

theorem cancelRequest (h : s.ReadLaw) (n : SlotId) : (s.cancelRequest n).ReadLaw := by
  unfold State.cancelRequest
  dsimp only
  split
  · exact (((h.slotResult n _).withdraw _ n).completeRequest n _ _).arbitrate _
  · exact h.slotResult n _

theorem releaseRequest (h : s.ReadLaw) (n : SlotId) : (s.releaseRequest n).ReadLaw := by
  unfold State.releaseRequest
  dsimp only
  split
  · exact h.setRequest n _
  · exact h.slotResult n _

theorem slotCommand (h : s.ReadLaw) (n : SlotId) (code : BitVec 4) : (s.slotCommand n code).ReadLaw := by
  unfold State.slotCommand
  repeat' split
  · exact h.submitRequest n
  · exact h.cancelRequest n
  · exact h.releaseRequest n
  · exact h.slotResult n _

/-! ## Registers -/

theorem eventCommand (h : s.ReadLaw) (code : BitVec 4) : (s.eventCommand code).ReadLaw := by
  unfold State.eventCommand
  split <;> exact h.of_eq rfl rfl

theorem globalCommand (h : s.ReadLaw) (code : BitVec 4) : (s.globalCommand code).ReadLaw := by
  unfold State.globalCommand
  split <;> exact h.of_eq rfl rfl

theorem takeConfig (h : s.ReadLaw) (p : PortId) (written : Option PortConfig) : (s.takeConfig p written).ReadLaw := by
  unfold State.takeConfig
  split
  · exact h.withAnswer _
  · rename_i c
    split
    · exact State.ReadLaw.withAnswer (h.modPort_of_pool p (f := fun q => { q with config := c }) rfl) _
    · exact h.withAnswer _

theorem writeConfigA (h : s.ReadLaw) (p : PortId) (v : Word) : (s.writeConfigA p v).ReadLaw :=
  s.writeConfigA_eq p v ▸ h.takeConfig p _

theorem writeConfigB (h : s.ReadLaw) (p : PortId) (v : Word) : (s.writeConfigB p v).ReadLaw :=
  s.writeConfigB_eq p v ▸ h.takeConfig p _

theorem writeWindowControl (h : s.ReadLaw) (e : EntryId) (v : Word) : (s.writeWindowControl e v).ReadLaw := by
  refine h.of_eq (s.samePorts_writeWindowControl e v).ports ?_
  unfold State.writeWindowControl
  dsimp only
  split
  · split <;> rfl
  · split <;> rfl

theorem writeWindowBase (h : s.ReadLaw) (e : EntryId) (v : Word) : (s.writeWindowBase e v).ReadLaw := by
  unfold State.writeWindowBase
  split <;> exact h.of_eq rfl rfl

theorem writeWindowRemote (h : s.ReadLaw) (e : EntryId) (v : Word) : (s.writeWindowRemote e v).ReadLaw := by
  unfold State.writeWindowRemote
  split <;> exact h.of_eq rfl rfl

theorem writeDiscardTime (h : s.ReadLaw) (v : Word) : (s.writeDiscardTime v).ReadLaw := by
  unfold State.writeDiscardTime
  dsimp only
  split <;> exact h.of_eq rfl rfl

theorem writeClassMask (h : s.ReadLaw) (v : Word) : (s.writeClassMask v).ReadLaw := h.of_eq rfl rfl

theorem writeInterruptControl (h : s.ReadLaw) (v : Word) : (s.writeInterruptControl v).ReadLaw := by
  unfold State.writeInterruptControl
  dsimp only
  split <;> exact h.of_eq rfl rfl

theorem writeRequest (h : s.ReadLaw) (n : SlotId) (f : RequestSlot → RequestSlot) : (s.writeRequest n f).ReadLaw := by
  unfold State.writeRequest
  split <;> exact h.of_eq rfl rfl

theorem writeReg (h : s.ReadLaw) (r : Reg) (v : Word) : (s.writeReg r v).ReadLaw := by
  cases r with
  | globalControl => exact (h.globalCommand _).withAnswer _
  | eventControl => exact (h.eventCommand _).withAnswer _
  | classMask => exact h.writeClassMask v
  | interruptControl => exact h.writeInterruptControl v
  | discardTime => exact h.writeDiscardTime v
  | windowControl e => exact h.writeWindowControl e v
  | windowBase e => exact h.writeWindowBase e v
  | windowRemote e => exact h.writeWindowRemote e v
  | requestControl n => exact h.writeRequest n (·.withControl v)
  | requestRemote n => exact h.writeRequest n fun q => { q with remote := v }
  | requestData n k => exact h.writeRequest n fun q => { q with buffer := writeBufferWord q.buffer k v }
  | requestCommand n => exact (h.slotCommand n _).withAnswer _
  | port p x =>
    cases x with
    | control => exact (h.portCommand p _).withAnswer _
    | configA => exact h.writeConfigA p v
    | configB => exact h.writeConfigB p v
    | _ => exact h.withAnswer _
  | _ => exact h.withAnswer _

theorem readAccess (h : s.ReadLaw) (r : Reg) : (s.readAccess r).ReadLaw := by
  refine State.ReadLaw.withAnswer ?_ _
  cases r with
  | port p x => exact h.modPort_of_pool p (f := (·.clearOnRead x)) (Port.clearOnRead_pool _ x)
  | _ => exact h.of_eq rfl rfl

theorem registerAccess (h : s.ReadLaw) (off : BitVec 10) (a : RegAccess) : (s.registerAccess off a).ReadLaw := by
  unfold State.registerAccess
  split
  · exact h.withAnswer _
  · split
    · exact h.withAnswer _
    · exact h.readAccess _
  · split
    · exact h.withAnswer _
    · exact h.writeReg _ _

/-! ## Accesses to windows -/

theorem ownedWrite (h : s.ReadLaw) (x : Hit) (d : WriteData) : (s.ownedWrite x d).ReadLaw := by
  have joined : (s.modPort x.port (·.joinPosted (postedRecord x.remote d))).ReadLaw := by
    refine h.modPort_of_reads x.port fun n => ?_
    refine (((s.port x.port).join_pool (postedRecord x.remote d)).filter _).trans (.of_eq ?_)
    exact List.filter_cons_of_neg (mt Record.readFor_iff.1 Source.noConfusion)
  unfold State.ownedWrite
  split
  · exact h.withAnswer _
  · split
    · exact ((joined.invalidate _ _).arbitrate _).withAnswer _
    · exact h.withAnswer _
    · exact h.withAnswer _

/-- The slot that is claimed for a read has the record that joins the lane (R9, R127). -/
theorem allocateRead (h : s.ReadLaw) {n : SlotId} (free : s.readSlot n = none) {k : ReadKey}
    (fresh : ∀ m slot, s.readSlot m = some slot → slot.key ≠ k) (x : Hit) : (s.allocateRead n k x).ReadLaw := by
  refine State.ReadLaw.arbitrate (State.readLawOwing_nil.1 ((h.claim free fresh x.port x.remote).modPort ?_)) x.port
  exact Port.join_pool _ _

theorem newRead (h : s.ReadLaw) {k : ReadKey} (fresh : ∀ m slot, s.readSlot m = some slot → slot.key ≠ k) (x : Hit) :
    (s.newRead k x).ReadLaw := by
  have refused : s.refuseRead.ReadLaw := h.of_eq rfl rfl
  unfold State.newRead
  split
  · exact h.withAnswer _
  · split
    · exact refused
    · rename_i n hn
      split
      · exact refused
      · have free : s.readSlot n = none := by simpa using List.find?_some hn
        exact (h.allocateRead free fresh x).withAnswer _

/-- Keys are distinct, so the slot the DRU finds for a key is the one that holds it (R125). -/
theorem findKey (h : s.ReadLaw) {n : SlotId} {slot : ReadSlot} (hs : s.readSlot n = some slot) :
    s.findKey slot.key = some (n, slot) := by
  cases hf : s.findKey slot.key with
  | none => exact absurd rfl (State.findKey_none.1 hf n slot hs)
  | some found =>
    obtain ⟨m, other⟩ := found
    obtain ⟨hm, hk⟩ := State.findKey_some hf
    obtain rfl := h.keys m n other slot hm hs hk
    rw [Option.some.inj (hm.symm.trans hs)]

/-- Once the slot that holds a key is FREE, no slot holds it (R125). -/
theorem findKey_freed (h : s.ReadLaw) {n : SlotId} {slot : ReadSlot}
    (hs : s.readSlot n = some slot) : (s.setReadSlot n none).findKey slot.key = none := by
  refine State.findKey_none.2 fun m other hm hk => ?_
  rw [State.setReadSlot_readSlot] at hm
  split at hm
  · cases hm
  · rename_i hne
    exact hne (h.keys m n other slot hm hs hk)

/-- A slot found for a key that is not PENDING becomes FREE, and then no slot holds the key (R125). -/
theorem decideRead (h : s.ReadLaw) (k : ReadKey) (x : Hit) : (s.decideRead k x).ReadLaw := by
  unfold State.decideRead
  split
  · rename_i unheld
    exact h.newRead (State.findKey_none.1 unheld) x
  · rename_i n slot found
    obtain ⟨hs, rfl⟩ := State.findKey_some found
    have fresh := State.findKey_none.1 (h.findKey_freed hs)
    have freed (idle : slot.state ≠ .pending) : (s.setReadSlot n none).ReadLaw := h.freeSlot fun a ha => by
      rwa [Option.some.inj (ha.symm.trans hs)]
    split
    · exact h.withAnswer _
    · rename_i hx
      have freed := freed fun hp => by cases hp.symm.trans hx
      split
      · exact freed.withAnswer _
      · exact freed.newRead fresh x
    · rename_i hx
      have freed := freed fun hp => by cases hp.symm.trans hx
      split
      · exact freed.withAnswer _
      · exact freed.newRead fresh x

theorem ownedRead (h : s.ReadLaw) (k : ReadKey) (x : Hit) : (s.ownedRead k x).ReadLaw := by
  unfold State.ownedRead
  split
  · exact h.withAnswer _
  · exact h.decideRead k x

theorem loseMirror (h : s.ReadLaw) (p : PortId) : (s.loseMirror p).ReadLaw := by
  have counted : (s.modPort p fun q => { q with mirrorLost := satSucc16 q.mirrorLost }).ReadLaw := h.modPort_of_pool p rfl
  unfold State.loseMirror
  dsimp only
  split
  · exact counted.offer _
  · exact counted

theorem mirroredWrite (h : s.ReadLaw) (m : MasterId) (addr : Word) (x : Hit) (d : WriteData) :
    (s.mirroredWrite m addr x d).ReadLaw := by
  obtain ⟨-, e⟩ | ⟨-, -, e⟩ | ⟨-, -, e⟩ | ⟨-, -, -, e⟩ := s.mirroredWrite_cases m addr x d <;> rw [e]
  · exact h.pass _
  · exact (h.loseMirror x.port).pass _
  · exact ((h.join x.port fun _ => Source.noConfusion).setTarget _).pass _
  · exact h.withAnswer _

theorem windowAccess (h : s.ReadLaw) (m : MasterId) (addr : Word) (k : AccessKind) : (s.windowAccess m addr k).ReadLaw := by
  unfold State.windowAccess
  split
  · exact h.registerAccess _ _
  · split
    · exact h.pass _
    · split
      · exact h.ownedWrite _ _
      · exact h.ownedRead _ _
      · exact h.mirroredWrite m addr _ _
      · exact h.pass _

/-- A RESERVED record takes its data in its place, and is no READ record (R8). -/
theorem commitReserved (h : s.ReadLaw) (p : PortId) (data : List Byte) : (s.modPort p (·.commitReserved data)).ReadLaw := by
  refine h.modPort_of_reads p fun n => .of_eq ?_
  have lane := filter_commit_readFor (n := n) (l := (s.port p).normal) data fun r hr =>
    h.unreserved (p := p) (by simp [Port.pool, hr])
  simp only [Port.pool, Port.commitReserved, List.filter_append, lane]

theorem commitMirror (h : s.ReadLaw) (p : PortId) : (s.commitMirror p).ReadLaw := by
  have committed (data : List Byte) := (h.setTarget s.target.capture).commitReserved p data
  unfold State.commitMirror
  dsimp only
  refine State.ReadLaw.arbitrate (State.ReadLaw.setTarget ?_ _) p
  split
  · exact (committed _).invalidate p _
  · exact committed _

theorem releaseMirror (h : s.ReadLaw) (p : PortId) : (s.releaseMirror p).ReadLaw := by
  refine State.ReadLaw.setTarget (h.modPort_of_reads p fun n => .of_eq ?_) _
  have lane := filter_queued_readFor (n := n) (l := (s.port p).normal) fun r hr =>
    h.unreserved (p := p) (by simp [Port.pool, hr])
  simp only [Port.pool, Port.releaseReserved, List.filter_append, lane]

theorem terminateAccess (h : s.ReadLaw) (x : Termination) : (s.terminateAccess x).ReadLaw := by
  obtain ⟨-, e⟩ | ⟨p, -, ⟨-, e⟩ | ⟨-, e⟩⟩ := s.terminateAccess_cases x <;> rw [e]
  · exact h.setTarget _
  · exact h.commitMirror p
  · exact h.releaseMirror p

/-- An access that is not decided changes its recorded answer alone. -/
theorem present (h : s.ReadLaw) (b : Bool) {act : State → State} (decided : (act s).ReadLaw) : (s.present b act).ReadLaw := by
  obtain ⟨-, -, e⟩ | ⟨a, -, e⟩ := s.present_cases b act <;> rw [e]
  · exact decided
  · exact h.withAnswer a

theorem presentCommand (h : s.ReadLaw) {act : State → State} (decided : (act s).ReadLaw) : (s.presentCommand act).ReadLaw :=
  h.present true (decided.withAnswer .ack)

theorem hostAccess (h : s.ReadLaw) (m : MasterId) (addr : Word) (k : AccessKind) : (s.hostAccess m addr k).ReadLaw :=
  h.present _ (h.windowAccess m addr k)

end

/-- The bytes of the line, one after the other (R30). -/
theorem lineBytes {s : State} (h : s.ReadLaw) (p : PortId) (bs : List Byte) : (s.lineBytes p bs).ReadLaw := by
  induction bs generalizing s with
  | nil => exact h
  | cons b bs ih => exact ih (h.lineByte p b)

end State.ReadLaw

/-! ## Resets -/

/-- With every pool empty and every slot FREE there is nothing to wait for. -/
theorem State.readLaw_of_empty {s : State} (pools : ∀ p, (s.port p).pool = []) (slots : ∀ n, s.readSlot n = none) :
    s.ReadLaw where
  records n p := by simp [pools, State.readRecordFor, slots]
  keys n m a b ha := by cases (slots n).symm.trans ha
  ready n slot data deadline hs := by cases (slots n).symm.trans hs

theorem State.readLaw_hardwareReset (s : State) : s.hardwareReset.ReadLaw :=
  State.readLaw_of_empty (fun p => by rw [State.hardwareReset_port]; rfl) s.hardwareReset_readSlot

theorem State.readLaw_chipReset (s : State) : s.chipReset.ReadLaw :=
  State.readLaw_of_empty (fun p => by rw [State.chipReset_port]; rfl) s.chipReset_readSlot

/-! ## Every command -/

theorem exec_readLaw {c : Instr} {s t : State} (h : s.ReadLaw) (e : exec c s = .next t) : t.ReadLaw := by
  cases c <;> cases e
  case ownedWrite => exact h.hostAccess _ _ _
  case ownedRead => exact h.hostAccess _ _ _
  case mirroredWrite => exact h.hostAccess _ _ _
  case passedAccess => exact h.hostAccess _ _ _
  case mirrorTermination => exact h.terminateAccess _
  case registerWrite => exact h.present _ (h.registerAccess _ _)
  case configurationAWrite p v => exact h.present _ (h.writeConfigA p v)
  case configurationBWrite p v => exact h.present _ (h.writeConfigB p v)
  case windowControlWrite e v => exact h.present _ (h.writeWindowControl e v)
  case windowBaseWrite e v => exact h.present _ (h.writeWindowBase e v)
  case windowRemoteWrite e v => exact h.present _ (h.writeWindowRemote e v)
  case discardTimeWrite v => exact h.present _ (h.writeDiscardTime v)
  case classMaskWrite v => exact h.present _ (h.writeClassMask v)
  case interruptControlWrite v => exact h.present _ (h.writeInterruptControl v)
  case requestControlWrite n v => exact h.present _ (h.writeRequest n _)
  case requestRemoteAddressWrite n v => exact h.present _ (h.writeRequest n _)
  case requestDataWrite n k v => exact h.present _ (h.writeRequest n _)
  case enable p => exact h.presentCommand (h.enablePort p)
  case disable p => exact h.presentCommand (h.disablePort p)
  case resume p => exact h.presentCommand (h.resumePort p)
  case flush p => exact h.presentCommand (h.flushPort p)
  case restart p => exact h.presentCommand (h.restartPort p)
  case ackAttention p => exact h.presentCommand (h.ackAttention p)
  case portCommandUnknown p v => exact h.presentCommand (h.portCommand p _)
  case submit n => exact h.presentCommand (h.submitRequest n)
  case cancel n => exact h.presentCommand (h.cancelRequest n)
  case release n => exact h.presentCommand (h.releaseRequest n)
  case slotCommandUnknown n v => exact h.presentCommand (h.slotCommand n _)
  case pop => exact h.presentCommand (h.of_eq rfl rfl)
  case eventCommandUnknown v => exact h.presentCommand (h.eventCommand _)
  case chipReset => exact h.presentCommand (h.of_eq rfl rfl)
  case globalCommandUnknown v => exact h.presentCommand (h.globalCommand _)
  case chipResetTaken =>
    split
    · exact s.readLaw_chipReset
    · exact h
  case hardwareReset => exact s.readLaw_hardwareReset
  case resetRelease =>
    split
    · exact h.of_eq rfl rfl
    · exact h
  case crcErrorCounterRead => exact h.present _ (h.readAccess _)
  case malformedFrameCounterRead => exact h.present _ (h.readAccess _)
  case retransmissionCounterRead => exact h.present _ (h.readAccess _)
  case staleResponseCounterRead => exact h.present _ (h.readAccess _)
  case probeAttemptCounterRead => exact h.present _ (h.readAccess _)
  case mirrorLostCounterRead => exact h.present _ (h.readAccess _)
  case refusalCounterRead => exact h.present _ (h.readAccess _)
  case invalidationCounterRead => exact h.present _ (h.readAccess _)
  case ackFrameReceived p _ _ => exact h.stationFrame p _
  case dataFrameReceived p _ _ _ => exact h.stationFrame p _
  case rejectFrameReceived p _ _ _ _ => exact h.stationFrame p _
  case identFrameReceived p _ _ _ _ _ => exact h.stationFrame p _
  case crcErrorFrame p bs => exact h.lineBytes p bs
  case malformedFrame p bs => exact h.lineBytes p bs
  case carrierLost p => exact h.loseCarrier p
  case carrierRegained p => exact h.regainCarrier p
  case transmissionEnd p => exact h.endTransmission p
  case responseTimerExpiry p => exact h.expireResponseTimer p
  case busyBackoffEnd p => exact h.endBackoff p
  case probeResponseWaitExpiry p => exact h.expireResponseWait p
  case probeIntervalExpiry p => exact h.expireProbeInterval p
  case reprobeIntervalExpiry p => exact h.expireReprobeInterval p
  case discardTimerExpiry n => exact h.expireDiscardTimer n
  case holdoffTimerExpiry => exact h.of_eq rfl rfl
  case timestampTick => exact h.of_eq rfl rfl

/-- Settles O11: a step runs the command in front, which keeps the laws of the slots, or idles. -/
theorem readLawKept : Obligations.ReadLawKept := by
  intro s t hs e
  unfold step at e
  split at e
  · cases e
    exact hs.reads
  · rename_i c rest _
    exact exec_readLaw (s := { s with pending := rest }) (hs.reads.of_eq rfl rfl) e

end Sys2Proof.Machine
end

section
/-! PROOF. O17: reads that a slot answers. -/

namespace Sys2Proof.Machine

theorem ReadSlot.fullMatch_iff (slot : ReadSlot) (h : Hit) :
    slot.fullMatch h = true ↔ slot.port = h.port ∧ slot.remote = h.remote := by
  simp [ReadSlot.fullMatch]

/-- A stale match frees its slot, and the read is decided as one that no slot holds (R125). -/
theorem State.ReadLaw.decideRead_stale {s : State} (h : s.ReadLaw) {n : SlotId} {slot : ReadSlot}
    (hs : s.readSlot n = some slot) (idle : slot.state ≠ .pending) {x : Hit} (stale : slot.fullMatch x = false) :
    s.decideRead slot.key x = (s.setReadSlot n none).decideRead slot.key x := by
  rw [State.decideRead, State.decideRead, h.findKey hs, h.findKey_freed hs]
  dsimp only
  cases hx : slot.state with
  | pending => exact absurd hx idle
  | ready data deadline => simp [stale]
  | failed cause deadline => simp [stale]

/-- Settles O17, by the state of the slot and its translation. -/
theorem ownedReadAnsweredFromItsSlot : Obligations.OwnedReadAnsweredFromItsSlot := by
  intro s m addr z h n slot hr ha hw hl hm hp law hs hk
  have hit := exec_ownedRead_of_hit (m := m) hr ha hw hl hm
  have decided (t : State) : t.ownedRead ⟨m, addr, z⟩ h = t.decideRead slot.key h := by rw [State.ownedRead, hp, hk]; rfl
  have found := law.findKey hs
  rw [hit, decided]
  refine ⟨fun hx => ?_, fun data deadline hx port remote => ?_, fun cause deadline hx port remote => ?_, fun idle other => ?_⟩
  · simp [State.decideRead, found, hx]
  · simp [State.decideRead, found, hx, (slot.fullMatch_iff h).2 ⟨port, remote⟩]
  · simp [State.decideRead, found, hx, (slot.fullMatch_iff h).2 ⟨port, remote⟩]
  · have freed := exec_ownedRead_of_hit (s := s.setReadSlot n none) (m := m) ⟨hr.released, hr.busFree, hr.noResetDue⟩ ha hw hl hm
    have stale : slot.fullMatch h = false := by
      rw [← Bool.not_eq_true, slot.fullMatch_iff, not_and_or]
      exact other
    rw [freed, decided, law.decideRead_stale hs idle stale]

end Sys2Proof.Machine
end

section
/-! PROOF. O29 and O42: the shared settings, and the timestamp, holdoff and discard timers. -/

namespace Sys2Proof.Machine

/-! ## The interrupt line -/

/-- The line as it is judged, as a proposition (R154). -/
theorem EventQueue.lineCondition_eq (e : EventQueue) : e.lineCondition =
    decide (e.irqEnable = true ∧
      (e.threshold.toNat ≤ e.records.length ∨ (1 ≤ e.records.length ∧ e.holdoff = .runOut))) := by
  rw [Bool.eq_iff_iff, decide_eq_true_iff]
  simp [EventQueue.lineCondition]

/-! ## Shared settings -/

/-- A setting row is presented, and its write is decided by the register alone (R112). -/
theorem State.present_writeReg {s : State} (h : s.Ready) (r : Reg) (v : Word) :
    s.present true (fun s => s.writeReg r v) = s.writeReg r v := State.present_of_ready h rfl _

/-- Settles O29: each row is the write of its register, taken or refused. -/
theorem sharedSettingWrites : Obligations.SharedSettingWrites := by
  intro s v h
  have row := fun r => congrArg (Host.Outcome.next (φ := Fault) (ρ := Refusal)) (State.present_writeReg h r v)
  refine ⟨fun taken => (row .discardTime).trans ?_, fun zero => (row .discardTime).trans ?_, row .classMask,
    fun low high => (row .interruptControl).trans ?_, fun out => (row .interruptControl).trans ?_⟩
  · rw [State.writeReg, State.writeDiscardTime_of_taken taken]
  · rw [State.writeReg, State.writeDiscardTime]
    exact congrArg Host.Outcome.next (if_pos zero)
  · rw [State.writeReg, State.writeInterruptControl_of_taken low high, EventQueue.judged, EventQueue.lineCondition_eq]
  · rw [State.writeReg, State.writeInterruptControl]
    exact congrArg Host.Outcome.next (if_pos out)

/-! ## Shared timers -/

theorem EventQueue.expireHoldoff_of_running {e : EventQueue} {endTime : Nat} (h : e.holdoff = .running endTime) :
    e.expireHoldoff = EventQueue.judged { e with holdoff := .runOut } := by
  unfold EventQueue.expireHoldoff
  rw [h]

theorem EventQueue.expireHoldoff_of_not_running {e : EventQueue} (h : ∀ endTime, e.holdoff ≠ .running endTime) :
    e.expireHoldoff = e := by
  unfold EventQueue.expireHoldoff
  split
  · rename_i endTime running
    exact absurd running (h endTime)
  · rfl

/-- The discard timer of a READY or FAILED slot frees it and offers its cause (R132). -/
theorem State.expireDiscardTimer_of_result {s : State} {n : SlotId} {slot : ReadSlot} {cause : Cause}
    (hs : s.readSlot n = some slot)
    (h : (∃ data deadline, slot.state = .ready data deadline) ∧ cause = .ready ∨ ∃ deadline, slot.state = .failed cause deadline) :
    s.expireDiscardTimer n = (s.setReadSlot n none).offer (readDiscarded n slot cause) := by
  unfold State.expireDiscardTimer
  rw [hs]
  obtain ⟨⟨data, deadline, hx⟩, rfl⟩ | ⟨deadline, hx⟩ := h <;> simp [hx]

/-- A FREE or PENDING slot has no discard timer (Table 8-1). -/
theorem State.expireDiscardTimer_of_pending {s : State} {n : SlotId}
    (h : ∀ slot, s.readSlot n = some slot → slot.state = .pending) : s.expireDiscardTimer n = s := by
  unfold State.expireDiscardTimer
  split
  · rfl
  · rename_i slot hs
    simp [h slot hs]

/-- The timestamp counts modulo 2^32 unless the reset pin holds it (R152, R159). -/
theorem State.tick_eq (s : State) : s.tick = { s with
    now := s.now + 1
    events := if s.resetAsserted then s.events
      else { s.events with timestamp := BitVec.ofNat 32 (s.events.timestamp.toNat + 1) } } := by
  have wraps : s.events.timestamp + 1 = BitVec.ofNat 32 (s.events.timestamp.toNat + 1) := by
    rw [BitVec.ofNat_add, BitVec.ofNat_toNat, BitVec.setWidth_eq]
    rfl
  rw [State.tick, wraps]

/-- Settles O42, timer by timer. -/
theorem sharedTimersRun : Obligations.SharedTimersRun := by
  intro s n
  refine ⟨fun released => ?_, fun asserted => ?_, fun endTime running => ?_, fun still => ?_, fun slot cause hs result => ?_,
    fun pending => congrArg Host.Outcome.next (State.expireDiscardTimer_of_pending pending)⟩
  · show Host.Outcome.next s.tick = _
    rw [s.tick_eq, released]
    rfl
  · show Host.Outcome.next s.tick = _
    rw [s.tick_eq, asserted]
    rfl
  · show Host.Outcome.next (s.setEvents s.events.expireHoldoff) = _
    rw [EventQueue.expireHoldoff_of_running running, EventQueue.judged, EventQueue.lineCondition_eq]
    simp
  · show Host.Outcome.next (s.setEvents s.events.expireHoldoff) = _
    rw [EventQueue.expireHoldoff_of_not_running still]
    rfl
  · exact congrArg Host.Outcome.next (State.expireDiscardTimer_of_result hs result)

end Sys2Proof.Machine
end

section
/-! PROOF. O30, O38 and O39: the field registers of a request slot, the commands that act on it, and those that its state does
not allow. -/

namespace Sys2Proof.Machine

/-! ## Field registers -/

section
variable {s : State} {n : SlotId}

theorem State.writeRequest_of_not_idle (h : (s.request n).state ≠ .idle) (f : RequestSlot → RequestSlot) :
    s.writeRequest n f = s.withAnswer .berr := if_neg h

/-- A row that writes a field register is presented, and decided by the slot's state alone (R137). -/
theorem State.present_writeRequest (hr : s.Ready) (n : SlotId) (f : RequestSlot → RequestSlot) :
    s.present true (fun s => s.writeRequest n f) = s.writeRequest n f := State.present_of_ready hr rfl _

end

/-- Settles O30: each row is taken or refused by the state of its slot. -/
theorem requestFieldWritesNeedAnIdleSlot : Obligations.RequestFieldWritesNeedAnIdleSlot := by
  intro s n k v hr
  have row := fun f => congrArg (Host.Outcome.next (φ := Fault) (ρ := Refusal)) (State.present_writeRequest hr n f)
  refine ⟨fun idle => ?_, fun busy => ?_⟩
  · have taken := fun f => (row f).trans (congrArg Host.Outcome.next (State.writeRequest_of_idle idle f))
    exact ⟨taken _, taken _, _, taken _, writeBufferWord_get _ k v⟩
  · have refused := fun f => (row f).trans (congrArg Host.Outcome.next (State.writeRequest_of_not_idle busy f))
    exact ⟨refused _, refused _, refused _⟩

/-! ## The rows of the slot commands -/

section
variable {s : State} (hr : s.Ready) (n : SlotId)
include hr

theorem exec_cancel : exec (.cancel n) s = .next ((s.cancelRequest n).withAnswer .ack) :=
  congrArg Host.Outcome.next (State.presentCommand_of_ready hr _)

theorem exec_release : exec (.release n) s = .next ((s.releaseRequest n).withAnswer .ack) :=
  congrArg Host.Outcome.next (State.presentCommand_of_ready hr _)

theorem exec_slotCommandUnknown (v : Word) :
    exec (.slotCommandUnknown n v) s = .next ((s.slotCommand n (commandCode v)).withAnswer .ack) :=
  congrArg Host.Outcome.next (State.presentCommand_of_ready hr _)

end

/-! ## Commands that act -/

theorem Record.queuedFor_iff {r : Record} {n : SlotId} :
    r.queuedFor n = true ↔ r.source = .request n ∧ r.reserved = false := by
  simp [Record.queuedFor, Record.queued]

theorem Port.holdsQueued_iff {q : Port} {n : SlotId} :
    q.holdsQueued n = true ↔ ∃ r ∈ q.priority ++ q.normal, r.source = .request n ∧ r.reserved = false := by
  simp [Port.holdsQueued, Record.queuedFor_iff, or_and_right, exists_or]

theorem RequestState.isComplete_iff {x : RequestState} : x.isComplete = true ↔ ∃ c, x = .complete c := by
  cases x <;> simp [RequestState.isComplete]

section
variable {s : State} {n : SlotId}

/-- The QUEUED record leaves its lane, the slot completes with CANCELLED, and the arbiter chooses (R141, R143). -/
theorem State.cancelRequest_of_queued (hx : (s.request n).state = .submitted)
    (hq : (s.port (s.request n).port).holdsQueued n = true) :
    s.cancelRequest n = (((s.slotResult n .done).modPort (s.request n).port (·.withdraw n)).completeRequest n .cancelled
      (s.request n).buffer).arbitrate (s.request n).port := if_pos ⟨hx, hq⟩

theorem State.releaseRequest_of_complete {c : Cause} (h : (s.request n).state = .complete c) :
    s.releaseRequest n = s.setRequest n { s.request n with state := .idle, commandResult := .done } :=
  if_pos (RequestState.isComplete_iff.2 ⟨c, h⟩)

/-- A slot that takes a result and completes is replaced once. -/
theorem State.withdraw_completeRequest (s : State) (n : SlotId) (c : Cause) :
    ((s.slotResult n .done).modPort (s.request n).port (·.withdraw n)).completeRequest n c (s.request n).buffer =
      let left := (s.modPort (s.request n).port (·.withdraw n)).setRequest n
        { s.request n with state := .complete c, commandResult := .done }
      if (s.request n).notify then left.offer ⟨.requestDone, (s.request n).port, c, 0, .requestSlot n⟩ else left := by
  rw [State.completeRequest_eq, State.modPort_request, State.slotResult_request_self]
  have once := (s.modPort (s.request n).port (·.withdraw n)).setRequest_setRequest n
    { s.request n with commandResult := .done } { s.request n with state := .complete c, commandResult := .done }
  dsimp only
  rw [← once]
  rfl

end

/-- Settles O38, by the command. -/
theorem cancelAndReleaseAct : Obligations.CancelAndReleaseAct := by
  intro s n hr
  dsimp only
  rw [exec_cancel hr, exec_release hr]
  refine ⟨fun submitted queued => ?_, fun c complete => ?_⟩
  · rw [State.cancelRequest_of_queued submitted (Port.holdsQueued_iff.2 queued), State.withdraw_completeRequest]
    rfl
  · rw [State.releaseRequest_of_complete complete]

/-! ## Commands that are IGNORED -/

section
variable {s : State} {n : SlotId}

theorem State.submitRequest_of_not_idle (h : (s.request n).state ≠ .idle) :
    s.submitRequest n = s.slotResult n .ignored := if_neg h

/-- CANCEL needs a SUBMITTED slot whose record is still in a lane (R141). -/
theorem State.cancelRequest_of_not_queued (h : (s.request n).state ≠ .submitted ∨
    ∀ r ∈ (s.port (s.request n).port).priority ++ (s.port (s.request n).port).normal,
      ¬ (r.source = .request n ∧ r.reserved = false)) : s.cancelRequest n = s.slotResult n .ignored := by
  refine if_neg fun ⟨submitted, queued⟩ => ?_
  obtain ⟨r, hr, named⟩ := Port.holdsQueued_iff.1 queued
  exact h.elim (fun other => other submitted) fun gone => gone r hr named

theorem State.releaseRequest_of_not_complete (h : ∀ c, (s.request n).state ≠ .complete c) :
    s.releaseRequest n = s.slotResult n .ignored :=
  if_neg fun complete => (RequestState.isComplete_iff.1 complete).elim h

/-- Codes 1 to 3 name the slot commands; every other code is IGNORED (R138, Table 11-7). -/
theorem State.slotCommand_of_unnamed {code : BitVec 4} (h : code.toNat = 0 ∨ 3 < code.toNat) :
    s.slotCommand n code = s.slotResult n .ignored := by
  have unnamed (m : BitVec 4) (low : 1 ≤ m.toNat) (high : m.toNat ≤ 3) : code ≠ m := by
    rintro rfl
    omega
  rw [State.slotCommand, if_neg (unnamed 1 (by decide) (by decide)), if_neg (unnamed 2 (by decide) (by decide)),
    if_neg (unnamed 3 (by decide) (by decide))]

end

/-- Settles O39, by the command. -/
theorem slotCommandsIgnored : Obligations.SlotCommandsIgnored := by
  intro s n v hr
  dsimp only
  rw [exec_submit hr, exec_cancel hr, exec_release hr, exec_slotCommandUnknown hr, ← State.slotResult]
  refine ⟨fun h => ?_, fun h => ?_, fun h => ?_, fun h => ?_⟩
  · rw [State.submitRequest_of_not_idle h]
  · rw [State.cancelRequest_of_not_queued h]
  · rw [State.releaseRequest_of_not_complete h]
  · rw [State.slotCommand_of_unnamed (by rwa [commandCode_toNat])]

end Sys2Proof.Machine
end

section
/-! PROOF. The REQUEST records of one port's pool and the request slots that wait for them: what reaches neither
(`State.SameRequests`), operation by operation. -/

namespace Sys2Proof.Machine

/-! ## The records of one slot -/

/-- A record that was made for request slot `n` (R136). -/
def Record.requestFor (n : SlotId) (r : Record) : Bool := r.source == .request n

theorem Record.requestFor_iff {n : SlotId} {r : Record} : r.requestFor n = true ↔ r.source = .request n := beq_iff_eq

theorem filter_requestFor_nil {n : SlotId} {l : List Record} (h : ∀ r ∈ l, r.source ≠ .request n) :
    l.filter (Record.requestFor n) = [] :=
  List.filter_eq_nil_iff.2 fun r hr => mt Record.requestFor_iff.1 (h r hr)

/-- The records of a port's pool that were made for request slot `n`. -/
def Port.requestsFor (q : Port) (n : SlotId) : List Record := q.pool.filter (Record.requestFor n)

theorem State.requestLaw_iff {s : State} : s.RequestLaw ↔ ∀ n p, (s.port p).requestsFor n = s.requestRecordFor n p := Iff.rfl

/-- A slot has one record at most, so it does not matter in what order its records are counted. -/
theorem State.requestLaw_of_perm {s : State} (h : ∀ n p, ((s.port p).requestsFor n).Perm (s.requestRecordFor n p)) :
    s.RequestLaw := by
  refine State.requestLaw_iff.2 fun n p => ?_
  refine (?_ : _ → _) (h n p)
  unfold State.requestRecordFor
  split
  · exact List.perm_singleton.1
  · exact List.Perm.eq_nil

theorem State.requestRecordFor_of_submitted {s : State} {n : SlotId} (h : (s.request n).state = .submitted) (x : PortId) :
    s.requestRecordFor n x = if x = (s.request n).port then [requestRecord n (s.request n)] else [] := by
  simp [State.requestRecordFor, h, eq_comm]

/-- A slot that is not SUBMITTED has no record (R136). -/
theorem State.requestRecordFor_of_not_submitted {s : State} {n : SlotId} (h : (s.request n).state ≠ .submitted) (x : PortId) :
    s.requestRecordFor n x = [] := if_neg fun hc => h hc.1

theorem State.requestRecordFor_congr {s t : State} {n : SlotId} (h : t.request n = s.request n) (x : PortId) :
    t.requestRecordFor n x = s.requestRecordFor n x := by
  rw [State.requestRecordFor, State.requestRecordFor, h]

/-- Only a SUBMITTED slot has a record in a pool, that of its port, and it is the one that was made for it (R10, R136). -/
theorem State.mem_requestRecordFor {s : State} {n : SlotId} {p : PortId} {r : Record} (h : r ∈ s.requestRecordFor n p) :
    (s.request n).state = .submitted ∧ (s.request n).port = p ∧ r = requestRecord n (s.request n) := by
  unfold State.requestRecordFor at h
  split at h
  · rename_i hc
    exact ⟨hc.1, hc.2, List.mem_singleton.1 h⟩
  · cases h

/-- REQUEST records are never RESERVED. -/
theorem State.RequestLaw.unreserved {s : State} (h : s.RequestLaw) {p : PortId} {r : Record} (hr : r ∈ (s.port p).pool)
    {n : SlotId} (hn : r.requestFor n = true) : r.reserved = false := by
  have named : r ∈ s.requestRecordFor n p := h n p ▸ List.mem_filter.2 ⟨hr, hn⟩
  obtain ⟨-, -, rfl⟩ := State.mem_requestRecordFor named
  rfl

/-! ## What reaches no request -/

/-- `t` has the request slots of `s`, and each of its pools has the REQUEST records of that of `s`. -/
structure State.SameRequests (s t : State) : Prop where
  slots : t.requests = s.requests
  records : ∀ n x, ((t.port x).requestsFor n).Perm ((s.port x).requestsFor n)

/-- The law speaks of the slots and the REQUEST records alone. -/
theorem State.RequestLaw.same {s t : State} (h : s.RequestLaw) (e : State.SameRequests s t) : t.RequestLaw := by
  have slots : ∀ n, t.request n = s.request n := fun n => by rw [State.request, e.slots]; rfl
  refine State.requestLaw_of_perm fun n x => (e.records n x).trans (.of_eq ?_)
  rw [State.requestLaw_iff.1 h, State.requestRecordFor_congr (slots n)]

theorem State.SameRequests.refl (s : State) : State.SameRequests s s := ⟨rfl, fun _ _ => .refl _⟩

namespace State.SameRequests

section
variable {s t : State}

theorem trans {u : State} (h : State.SameRequests s t) (k : State.SameRequests t u) : State.SameRequests s u :=
  ⟨k.slots.trans h.slots, fun n x => (k.records n x).trans (h.records n x)⟩

/-- What changes neither the ports nor the request slots. -/
theorem still {u : State} (h : State.SameRequests s t) (ports : u.ports = t.ports) (slots : u.requests = t.requests) :
    State.SameRequests s u :=
  h.trans ⟨slots, fun n x => .of_eq (by simp only [State.port, ports])⟩

theorem withAnswer (h : State.SameRequests s t) (a : Answer) : State.SameRequests s (t.withAnswer a) := h.still rfl rfl

theorem pass (h : State.SameRequests s t) (a : HeldAccess) : State.SameRequests s (t.pass a) := h.still rfl rfl

theorem setTarget (h : State.SameRequests s t) (x : HostTarget) : State.SameRequests s (t.setTarget x) := h.still rfl rfl

theorem offer (h : State.SameRequests s t) (o : Offer) : State.SameRequests s (t.offer o) := h.still rfl rfl

theorem invalidate (h : State.SameRequests s t) (p : PortId) (r : Record) : State.SameRequests s (t.invalidate p r) :=
  h.still rfl rfl

/-- A change of one port that keeps its REQUEST records. -/
theorem modPort_of_requests (h : State.SameRequests s t) (p : PortId) {f : Port → Port}
    (e : ∀ n, ((f (t.port p)).requestsFor n).Perm ((t.port p).requestsFor n)) : State.SameRequests s (t.modPort p f) := by
  refine h.trans ⟨rfl, fun n x => ?_⟩
  rw [State.modPort_port]
  split
  · rename_i hx
    exact hx ▸ e n
  · exact .refl _

/-- A change of one port that keeps its records. -/
theorem modPort (h : State.SameRequests s t) (p : PortId) {f : Port → Port} (e : (f (t.port p)).pool.Perm (t.port p).pool) :
    State.SameRequests s (t.modPort p f) := h.modPort_of_requests p fun _ => e.filter _

/-- A change of one port that leaves its pool alone. -/
theorem modPort_of_pool (h : State.SameRequests s t) (p : PortId) {f : Port → Port} (e : (f (t.port p)).pool = (t.port p).pool) :
    State.SameRequests s (t.modPort p f) := h.modPort p (.of_eq e)

theorem arbitrate (h : State.SameRequests s t) (p : PortId) : State.SameRequests s (t.arbitrate p) :=
  h.modPort p (t.port p).arbitrate_pool

/-- A record that is not a REQUEST record joins its lane. -/
theorem join (h : State.SameRequests s t) (p : PortId) {f : Port → Port} {r : Record}
    (e : (f (t.port p)).pool = ((t.port p).join r).pool) (hr : ∀ n, r.source ≠ .request n) :
    State.SameRequests s (t.modPort p f) := by
  refine h.modPort_of_requests p fun n => ?_
  rw [Port.requestsFor, e]
  refine (((t.port p).join_pool r).filter _).trans (.of_eq ?_)
  exact List.filter_cons_of_neg (mt Record.requestFor_iff.1 (hr n))

/-- The hold removal takes READ records (R85). -/
theorem hold (h : State.SameRequests s t) (p : PortId) : State.SameRequests s (t.hold p) := by
  obtain ⟨port, -, slots, -⟩ := t.hold_spec p
  refine h.trans ⟨slots, fun n x => ?_⟩
  by_cases hx : x = p
  · subst hx
    have reads : ((t.port x).normal.filter Record.heldBack).filter (Record.requestFor n) = [] :=
      filter_requestFor_nil fun r hr hn => by simp [Record.heldBack, hn] at hr
    have kept := (t.port x).hold_pool.filter (Record.requestFor n)
    rw [List.filter_append, reads, List.nil_append] at kept
    rw [port]
    exact kept
  · rw [(t.within_hold p).others x hx]

theorem loseLink (h : State.SameRequests s t) (p : PortId) (cause : Cause) : State.SameRequests s (t.loseLink p cause) :=
  ((h.modPort p (f := fun q => (q.returnWindow.clearSequencer).becomeLost cause t.now)
    (t.port p).returnWindow_pool).offer _).hold p

theorem stale (h : State.SameRequests s t) (p : PortId) : State.SameRequests s (t.stale p) := h.modPort_of_pool p rfl

/-! ### Link frames, carrier, transmitter and timers -/

theorem identFrame (h : State.SameRequests s t) (p : PortId) (r : Seq) (c : BitVec 16) (v w : Byte) :
    State.SameRequests s (t.identFrame p r c v w) := by
  unfold State.identFrame
  dsimp only
  split
  · refine ((State.SameRequests.modPort_of_pool ?_ p rfl).offer _).arbitrate p
    split
    · exact h.offer _
    · exact h
  · exact h.stale p

theorem takeAttention (h : State.SameRequests s t) (p : PortId) (flag : Bool) :
    State.SameRequests s (t.takeAttention p flag) := by
  unfold State.takeAttention
  split
  · exact (h.modPort_of_pool p (f := Port.latchAttention) rfl).offer _
  · exact h

theorem loseCarrier (h : State.SameRequests s t) (p : PortId) : State.SameRequests s (t.loseCarrier p) := by
  have dropped := h.modPort_of_pool p (f := fun q => q.dropPartial.setCarrier false) (t.port p).dropPartial_pool
  unfold State.loseCarrier
  dsimp only
  split
  · split
    · exact dropped.loseLink p _
    · exact dropped
  · exact h

theorem regainCarrier (h : State.SameRequests s t) (p : PortId) : State.SameRequests s (t.regainCarrier p) := by
  unfold State.regainCarrier
  split
  · exact h
  · exact h.modPort_of_pool p rfl

theorem endTransmission (h : State.SameRequests s t) (p : PortId) : State.SameRequests s (t.endTransmission p) := by
  unfold State.endTransmission
  split
  · exact h
  · rename_i x _
    exact (h.modPort_of_pool p (f := fun q => Port.reportEnd { q with transmitter := none } x.frame t.now)
      (Port.reportEnd_pool _ _ _)).arbitrate p

theorem endBackoff (h : State.SameRequests s t) (p : PortId) : State.SameRequests s (t.endBackoff p) := by
  unfold State.endBackoff
  split
  · exact h
  · exact (h.modPort_of_pool p (f := fun q => Port.beginRun { q with backoff := none }) rfl).arbitrate p

theorem expireResponseWait (h : State.SameRequests s t) (p : PortId) : State.SameRequests s (t.expireResponseWait p) := by
  unfold State.expireResponseWait
  split
  · exact h.modPort_of_pool p rfl
  · exact h

theorem expireProbeInterval (h : State.SameRequests s t) (p : PortId) : State.SameRequests s (t.expireProbeInterval p) := by
  unfold State.expireProbeInterval
  split
  · exact (h.modPort_of_pool p (f := (·.probeFallsDue t.now)) (Port.probeFallsDue_pool _ _)).arbitrate p
  · exact h

theorem expireReprobeInterval (h : State.SameRequests s t) (p : PortId) :
    State.SameRequests s (t.expireReprobeInterval p) := by
  unfold State.expireReprobeInterval
  split
  · exact (h.modPort_of_pool p (f := (·.enterProbing t.now)) (Port.enterProbing_pool _ _)).arbitrate p
  · exact h

theorem expireDiscardTimer (h : State.SameRequests s t) (n : SlotId) : State.SameRequests s (t.expireDiscardTimer n) := by
  unfold State.expireDiscardTimer
  split
  · exact h
  · split
    · exact h
    · exact h.still rfl rfl
    · exact h.still rfl rfl

/-! ### Port commands that remove no record -/

theorem portResult (h : State.SameRequests s t) (p : PortId) (r : CommandResult) : State.SameRequests s (t.portResult p r) :=
  h.modPort_of_pool p rfl

theorem enablePort (h : State.SameRequests s t) (p : PortId) : State.SameRequests s (t.enablePort p) := by
  unfold State.enablePort
  split
  · exact ((h.modPort_of_pool p
      (f := fun q => Port.enterProbing { q with nextSeq := 0, receiver := .hunt false } t.now)
      (Port.enterProbing_pool _ _)).portResult p _).arbitrate p
  · exact h.portResult p _

theorem resumePort (h : State.SameRequests s t) (p : PortId) : State.SameRequests s (t.resumePort p) := by
  unfold State.resumePort
  split
  · exact (h.modPort_of_pool p (f := fun q => { q with queue := .run, commandResult := .done }) rfl).arbitrate p
  · exact h.portResult p _

theorem restartPort (h : State.SameRequests s t) (p : PortId) : State.SameRequests s (t.restartPort p) := by
  unfold State.restartPort
  split
  · exact (h.modPort_of_pool p (f := fun q => (q.enterProbing t.now).withResult .done)
      ((t.port p).enterProbing_pool t.now)).arbitrate p
  · exact h.portResult p _

theorem ackAttention (h : State.SameRequests s t) (p : PortId) : State.SameRequests s (t.ackAttention p) := by
  unfold State.ackAttention
  split
  · exact h.portResult p _
  · exact h.modPort_of_pool p rfl

/-! ### Registers outside the request slots -/

theorem eventCommand (h : State.SameRequests s t) (code : BitVec 4) : State.SameRequests s (t.eventCommand code) := by
  unfold State.eventCommand
  split <;> exact h.still rfl rfl

theorem globalCommand (h : State.SameRequests s t) (code : BitVec 4) : State.SameRequests s (t.globalCommand code) := by
  unfold State.globalCommand
  split <;> exact h.still rfl rfl

theorem takeConfig (h : State.SameRequests s t) (p : PortId) (written : Option PortConfig) :
    State.SameRequests s (t.takeConfig p written) := by
  unfold State.takeConfig
  split
  · exact h.withAnswer _
  · rename_i c
    split
    · exact (h.modPort_of_pool p (f := fun q => { q with config := c }) rfl).withAnswer _
    · exact h.withAnswer _

theorem writeConfigA (h : State.SameRequests s t) (p : PortId) (v : Word) : State.SameRequests s (t.writeConfigA p v) :=
  t.writeConfigA_eq p v ▸ h.takeConfig p _

theorem writeConfigB (h : State.SameRequests s t) (p : PortId) (v : Word) : State.SameRequests s (t.writeConfigB p v) :=
  t.writeConfigB_eq p v ▸ h.takeConfig p _

theorem writeWindowControl (h : State.SameRequests s t) (e : EntryId) (v : Word) :
    State.SameRequests s (t.writeWindowControl e v) := by
  refine h.still (t.samePorts_writeWindowControl e v).ports ?_
  unfold State.writeWindowControl
  dsimp only
  split
  · split <;> rfl
  · split <;> rfl

theorem writeWindowBase (h : State.SameRequests s t) (e : EntryId) (v : Word) :
    State.SameRequests s (t.writeWindowBase e v) := by
  unfold State.writeWindowBase
  split <;> exact h.still rfl rfl

theorem writeWindowRemote (h : State.SameRequests s t) (e : EntryId) (v : Word) :
    State.SameRequests s (t.writeWindowRemote e v) := by
  unfold State.writeWindowRemote
  split <;> exact h.still rfl rfl

theorem writeDiscardTime (h : State.SameRequests s t) (v : Word) : State.SameRequests s (t.writeDiscardTime v) := by
  unfold State.writeDiscardTime
  dsimp only
  split <;> exact h.still rfl rfl

theorem writeClassMask (h : State.SameRequests s t) (v : Word) : State.SameRequests s (t.writeClassMask v) := h.still rfl rfl

theorem writeInterruptControl (h : State.SameRequests s t) (v : Word) :
    State.SameRequests s (t.writeInterruptControl v) := by
  unfold State.writeInterruptControl
  dsimp only
  split <;> exact h.still rfl rfl

theorem readAccess (h : State.SameRequests s t) (r : Reg) : State.SameRequests s (t.readAccess r) := by
  refine State.SameRequests.withAnswer ?_ _
  cases r with
  | port p x => exact h.modPort_of_pool p (f := (·.clearOnRead x)) (Port.clearOnRead_pool _ x)
  | _ => exact h.still rfl rfl

/-! ### Accesses to windows -/

/-- A posted write brings a POSTED record (R6). -/
theorem ownedWrite (h : State.SameRequests s t) (x : Hit) (d : WriteData) : State.SameRequests s (t.ownedWrite x d) := by
  have joined := h.join x.port (f := (·.joinPosted (postedRecord x.remote d))) rfl fun _ => Source.noConfusion
  unfold State.ownedWrite
  split
  · exact h.withAnswer _
  · split
    · exact ((joined.invalidate _ _).arbitrate _).withAnswer _
    · exact h.withAnswer _
    · exact h.withAnswer _

/-- A new read brings a READ record (R9). -/
theorem newRead (h : State.SameRequests s t) (k : ReadKey) (x : Hit) : State.SameRequests s (t.newRead k x) := by
  have refused : State.SameRequests s t.refuseRead := h.still rfl rfl
  unfold State.newRead
  split
  · exact h.withAnswer _
  · split
    · exact refused
    · rename_i n _
      split
      · exact refused
      · have claimed := h.still (u := t.setReadSlot n (some ⟨k, x.port, x.remote, .pending⟩)) rfl rfl
        exact ((claimed.join x.port rfl fun _ => Source.noConfusion).arbitrate _).withAnswer _

theorem decideRead (h : State.SameRequests s t) (k : ReadKey) (x : Hit) : State.SameRequests s (t.decideRead k x) := by
  have freed (n : SlotId) : State.SameRequests s (t.setReadSlot n none) := h.still rfl rfl
  unfold State.decideRead
  split
  · exact h.newRead k x
  · split
    · exact h.withAnswer _
    · split
      · exact (freed _).withAnswer _
      · exact (freed _).newRead k x
    · split
      · exact (freed _).withAnswer _
      · exact (freed _).newRead k x

theorem ownedRead (h : State.SameRequests s t) (k : ReadKey) (x : Hit) : State.SameRequests s (t.ownedRead k x) := by
  unfold State.ownedRead
  split
  · exact h.withAnswer _
  · exact h.decideRead k x

theorem loseMirror (h : State.SameRequests s t) (p : PortId) : State.SameRequests s (t.loseMirror p) := by
  have counted := h.modPort_of_pool p (f := fun q => { q with mirrorLost := satSucc16 q.mirrorLost }) rfl
  unfold State.loseMirror
  dsimp only
  split
  · exact counted.offer _
  · exact counted

/-- A mirror reservation brings a POSTED record (R7). -/
theorem mirroredWrite (h : State.SameRequests s t) (m : MasterId) (addr : Word) (x : Hit) (d : WriteData) :
    State.SameRequests s (t.mirroredWrite m addr x d) := by
  obtain ⟨-, e⟩ | ⟨-, -, e⟩ | ⟨-, -, e⟩ | ⟨-, -, -, e⟩ := t.mirroredWrite_cases m addr x d <;> rw [e]
  · exact h.pass _
  · exact (h.loseMirror x.port).pass _
  · have joined := h.join x.port (f := (·.join (reservedRecord x.remote d))) rfl fun _ => Source.noConfusion
    exact (joined.still (u := t.reserveMirror ⟨x.port, x.remote⟩ d) rfl rfl).pass _
  · exact h.withAnswer _

end

end State.SameRequests

end Sys2Proof.Machine
end

section
/-! PROOF. O12: every happening keeps the law of the request slots. What reaches no request keeps it (`State.SameRequests`); there
remain the outcomes of records that leave a pool, the registers and commands of the slots, and the two resets. -/

namespace Sys2Proof.Machine

/-! ## Records that leave a pool -/

/-- Records leave the pool of port `p`, and each slot that one of them was made for is no longer SUBMITTED. -/
theorem State.RequestLaw.removed {s t : State} (h : s.RequestLaw) (p : PortId) {rs : List Record}
    (own : ∀ n, (rs.filter (Record.requestFor n) ++ (t.port p).requestsFor n).Perm ((s.port p).requestsFor n))
    (others : ∀ x, x ≠ p → (t.port x).pool = (s.port x).pool)
    (slots : ∀ n, ((∀ r ∈ rs, r.source ≠ .request n) ∧ t.request n = s.request n) ∨
      ((∃ r ∈ rs, r.source = .request n) ∧ (t.request n).state ≠ .submitted)) : t.RequestLaw := by
  refine State.requestLaw_of_perm fun n x => ?_
  have before := State.requestLaw_iff.1 h n
  have elsewhere (hx : x ≠ p) : (t.port x).requestsFor n = s.requestRecordFor n x := by
    rw [Port.requestsFor, others x hx]
    exact before x
  have own := own n
  rw [before p] at own
  obtain ⟨unnamed, same⟩ | ⟨⟨r, hr, hn⟩, answered⟩ := slots n
  · rw [State.requestRecordFor_congr same]
    by_cases hx : x = p
    · rw [filter_requestFor_nil unnamed, List.nil_append] at own
      exact hx ▸ own
    · exact .of_eq (elsewhere hx)
  · have named : r ∈ rs.filter (Record.requestFor n) := List.mem_filter.2 ⟨hr, Record.requestFor_iff.2 hn⟩
    obtain ⟨submitted, port, -⟩ := State.mem_requestRecordFor (own.subset (List.mem_append_left _ named))
    have one := State.requestRecordFor_of_submitted submitted
    rw [State.requestRecordFor_of_not_submitted answered]
    by_cases hx : x = p
    · have count := own.length_eq
      have gone := List.length_pos_of_mem named
      rw [one, if_pos port.symm, List.length_append, List.length_singleton] at count
      rw [hx, List.length_eq_zero_iff.1 (by omega : ((t.port p).requestsFor n).length = 0)]
    · rw [elsewhere hx, one, if_neg fun hc => hx (hc.trans port)]

/-- A slot whose record has its outcome is no longer SUBMITTED (R142, R144). -/
theorem State.settle_request_answered (s : State) (p : PortId) {r : Record} (l : Leaving) {n : SlotId}
    (hn : r.source = .request n) : ((s.settle p r l).request n).state ≠ .submitted := by
  rw [State.settle_request]
  split
  · rw [RequestSlot.given_eq]
    exact RequestState.noConfusion
  · rename_i hc
    exact fun submitted => hc ⟨hn, submitted⟩

/-- The slots that removed records were made for are no longer SUBMITTED, and the others stand (R144). -/
theorem State.requestAfterRemoval_cases (s : State) (cause : Cause) (rs : List Record) (n : SlotId) :
    ((∀ r ∈ rs, r.source ≠ .request n) ∧ s.requestAfterRemoval cause rs n = s.request n) ∨
      ((∃ r ∈ rs, r.source = .request n) ∧ (s.requestAfterRemoval cause rs n).state ≠ .submitted) := by
  unfold State.requestAfterRemoval
  by_cases hn : ∃ r ∈ rs, r.source = .request n
  · refine .inr ⟨hn, ?_⟩
    obtain ⟨r, hr, named⟩ := hn
    have any : rs.any (fun r => r.source == .request n) = true := List.any_eq_true.2 ⟨r, hr, beq_iff_eq.2 named⟩
    split
    · exact RequestState.noConfusion
    · rename_i hc
      exact fun submitted => hc ⟨submitted, any⟩
  · refine .inl ⟨fun r hr named => hn ⟨r, hr, named⟩, if_neg fun ⟨_, any⟩ => hn ?_⟩
    obtain ⟨r, hr, named⟩ := List.any_eq_true.1 any
    exact ⟨r, hr, beq_iff_eq.1 named⟩

/-- Where the records that `f` tells are QUEUED, they stay when those that are RESERVED go. -/
theorem filter_queued_of_unreserved {f : Record → Bool} {l : List Record} (h : ∀ r ∈ l, f r = true → r.reserved = false) :
    (l.filter Record.queued).filter f = l.filter f := by
  rw [List.filter_filter]
  refine List.filter_congr fun r hr => ?_
  cases hf : f r with
  | false => rfl
  | true => simp [Record.queued, h r hr hf]

/-- Where the records that `f` tells are QUEUED, a commit changes none of them (R8). -/
theorem filter_commit_of_unreserved {f : Record → Bool} {l : List Record} {data : List Byte}
    (source : ∀ r, f (r.commit data) = f r) (h : ∀ r ∈ l, f r = true → r.reserved = false) :
    (l.map (Record.commit data)).filter f = l.filter f := by
  rw [List.filter_map, show f ∘ Record.commit data = f from funext source]
  refine (List.map_congr_left (g := id) fun r hr => ?_).trans (List.map_id _)
  obtain ⟨hl, hf⟩ := List.mem_filter.1 hr
  rw [Record.commit, h r hl hf]
  rfl

/-- The record that CANCEL takes, and the records it leaves, are the pool (R141). -/
theorem Port.withdraw_pool (q : Port) (n : SlotId) :
    ((q.priority ++ q.normal).filter (·.queuedFor n) ++ (q.withdraw n).pool).Perm q.pool := by
  have lanes := (List.filter_append_perm (·.queuedFor n) q.priority).append (List.filter_append_perm (·.queuedFor n) q.normal)
  refine List.Perm.trans ?_ ((lanes.append_left (q.window.map Sent.record)).trans (by simp [Port.pool]))
  rw [List.perm_iff_count]
  intro r
  simp only [Port.withdraw, Port.pool, List.filter_append, List.count_append]
  omega

namespace State.RequestLaw

section
variable {s : State}

/-! ## The sequencer -/

/-- The oldest record leaves the pool, and its producer is given its outcome (R61). -/
theorem settleOldest (h : s.RequestLaw) (p : PortId) {w : Sent} {rest : List Sent} (hw : (s.port p).window = w :: rest)
    (l : Leaving) : ((s.modPort p Port.dropOldest).settle p w.record l).RequestLaw := by
  refine h.removed p (rs := [w.record]) (fun n => .of_eq ?_) (fun x hx => ?_) fun n => ?_
  · rw [Port.requestsFor, State.settle_pool, State.modPort_port_self, ← List.filter_append]
    exact congrArg _ (Port.pool_of_oldest hw).symm
  · rw [State.settle_pool, State.modPort_port_ne _ _ hx]
  · by_cases hn : w.record.source = .request n
    · exact .inr ⟨⟨_, List.mem_singleton_self _, hn⟩, State.settle_request_answered _ p l hn⟩
    · refine .inl ⟨fun r hr => List.mem_singleton.1 hr ▸ hn, ?_⟩
      rw [State.settle_request, if_neg fun hc => hn hc.1]
      rfl

theorem exhaust (h : s.RequestLaw) (p : PortId) {w : Sent} {rest : List Sent} (hw : (s.port p).window = w :: rest)
    (cause : Cause) : (s.exhaust p w cause).RequestLaw :=
  (h.settleOldest p hw (.failed cause w.seq)).same ((State.SameRequests.refl _).loseLink p cause)

theorem complete (h : s.RequestLaw) (p : PortId) {w : Sent} {rest : List Sent} (hw : (s.port p).window = w :: rest)
    (l : Leaving) : (s.complete p w l).RequestLaw := by
  refine (h.settleOldest p hw l).same (State.SameRequests.arbitrate (State.SameRequests.modPort_of_pool ?_ p
    (Port.afterCompletion_pool _ _ _)) p)
  split
  · exact (State.SameRequests.refl _).hold p
  · exact .refl _

theorem stale (h : s.RequestLaw) (p : PortId) : (s.stale p).RequestLaw := h.same ((State.SameRequests.refl s).stale p)

theorem loseLink (h : s.RequestLaw) (p : PortId) (cause : Cause) : (s.loseLink p cause).RequestLaw :=
  h.same ((State.SameRequests.refl s).loseLink p cause)

theorem retryOldest (h : s.RequestLaw) (p : PortId) : (s.retryOldest p).RequestLaw := by
  obtain ⟨-, e⟩ | ⟨w, rest, hw, ⟨-, e⟩ | ⟨-, e⟩⟩ := s.retryOldest_cases p <;> rw [e]
  · exact h
  · exact h.same (((State.SameRequests.refl s).modPort_of_pool p (f := fun q => q.raiseRetry.beginRun)
      (Port.retried_pool _)).arbitrate p)
  · exact h.exhaust p hw _

theorem busyRefusal (h : s.RequestLaw) (p : PortId) : (s.busyRefusal p).RequestLaw := by
  obtain ⟨-, e⟩ | ⟨w, rest, hw, ⟨-, e⟩ | ⟨-, e⟩⟩ := s.busyRefusal_cases p <;> rw [e]
  · exact h
  · exact h.same ((State.SameRequests.refl s).modPort_of_pool p (Port.beginBackoff_pool _ _))
  · exact h.exhaust p hw _

theorem outOfOrder (h : s.RequestLaw) (p : PortId) : (s.outOfOrder p).RequestLaw := by
  unfold State.outOfOrder
  split
  · exact (h.stale p).retryOldest p
  · exact h.stale p

theorem expireResponseTimer (h : s.RequestLaw) (p : PortId) : (s.expireResponseTimer p).RequestLaw := by
  unfold State.expireResponseTimer
  split
  · exact h
  · exact State.RequestLaw.retryOldest (h.same ((State.SameRequests.refl s).modPort_of_pool p rfl)) p

/-! ## Frames of a station -/

theorem respond (h : s.RequestLaw) (p : PortId) (r : Seq) {act : Sent → State}
    (oldest : ∀ w rest, (s.port p).window = w :: rest → (act w).RequestLaw) : (s.respond p r act).RequestLaw := by
  obtain e | ⟨-, -, -, -, e⟩ | ⟨-, w, rest, hw, -, e⟩ := s.respond_cases p r act <;> rw [e]
  · exact h.stale p
  · exact h.outOfOrder p
  · exact oldest w rest hw

theorem ackResponse (h : s.RequestLaw) (p : PortId) (r : Seq) : (s.ackResponse p r).RequestLaw := by
  refine h.respond p r fun w rest hw => ?_
  split
  · exact h.complete p hw _
  · exact h.loseLink p _

theorem dataResponse (h : s.RequestLaw) (p : PortId) (r : Seq) (d : List Byte) : (s.dataResponse p r d).RequestLaw := by
  refine h.respond p r fun w rest hw => ?_
  split
  · split
    · exact h.complete p hw _
    · exact h.loseLink p _
  · exact h.loseLink p _

theorem sequenceRefusal (h : s.RequestLaw) (p : PortId) (e : Seq) : (s.sequenceRefusal p e).RequestLaw := by
  unfold State.sequenceRefusal
  dsimp only
  repeat' split
  · exact h.stale p
  · exact h.stale p
  · exact h.retryOldest p
  · exact h.loseLink p _

theorem rejectResponse (h : s.RequestLaw) (p : PortId) (r : Seq) (c : RejectCause) (e : Seq) :
    (s.rejectResponse p r c e).RequestLaw := by
  cases c with
  | sequence => exact h.sequenceRefusal p e
  | busy =>
    refine h.respond p r fun w rest _ => ?_
    split
    · exact h.stale p
    · exact h.busyRefusal p
  | address => exact h.respond p r fun _ _ hw => h.complete p hw _
  | denied => exact h.respond p r fun _ _ hw => h.complete p hw _

theorem deliver (h : s.RequestLaw) (p : PortId) (f : StationFrame) : (s.deliver p f).RequestLaw := by
  refine State.RequestLaw.same ?_ ((State.SameRequests.refl _).takeAttention p f.attention)
  split
  · exact h.ackResponse p _
  · exact h.dataResponse p _ _
  · exact h.rejectResponse p _ _ _
  · exact h.same ((State.SameRequests.refl s).identFrame p _ _ _ _)

theorem reception (h : s.RequestLaw) (p : PortId) (r : Reception) : (s.reception p r).RequestLaw := by
  cases r with
  | malformed => exact h.same ((State.SameRequests.refl s).modPort_of_pool p rfl)
  | crcError => exact h.same ((State.SameRequests.refl s).modPort_of_pool p rfl)
  | good f => exact h.deliver p f

theorem lineByte (h : s.RequestLaw) (p : PortId) (b : Byte) : (s.lineByte p b).RequestLaw := by
  have taken (r : Receiver) : (s.modPort p fun q => { q with receiver := r }).RequestLaw :=
    h.same ((State.SameRequests.refl s).modPort_of_pool p rfl)
  unfold State.lineByte
  dsimp only
  split
  · split
    · exact taken _
    · exact (taken _).reception p _
  · exact h

theorem stationFrame (h : s.RequestLaw) (p : PortId) (f : StationFrame) : (s.stationFrame p f).RequestLaw := by
  have hunting : (s.modPort p Port.toHunt).RequestLaw := h.same ((State.SameRequests.refl s).modPort_of_pool p rfl)
  obtain ⟨-, e⟩ | ⟨-, -, e⟩ | ⟨-, -, e⟩ := s.stationFrame_cases p f <;> rw [e]
  · exact h
  · exact hunting.deliver p f
  · exact hunting.reception p .malformed

/-! ## DISABLE and FLUSH -/

/-- A removal in one happening, whose records and those left in the pool are the pool (R90, R94). -/
theorem removal (h : s.RequestLaw) (p : PortId) {f : Port → Port} (cause : Cause) {rs : List Record}
    (own : ∀ n, (rs.filter (Record.requestFor n) ++ (f (s.port p)).requestsFor n).Perm ((s.port p).requestsFor n)) :
    (s.removal p f cause rs).RequestLaw := by
  have within : State.Within p s (s.removal p f cause rs) :=
    ((s.within_modPort p f).trans (State.within_settleAll p cause rs _)).trans (State.within_offerFlushed _ p rs)
  refine h.removed p (rs := rs) (fun n => ?_) (fun x hx => by rw [within.others x hx]) fun n => ?_
  · rw [State.removal_port]
    exact own n
  · rw [State.removal_request]
    exact s.requestAfterRemoval_cases cause rs n

/-- DISABLE takes every record but a RESERVED one, which is no REQUEST record (R95). -/
theorem disablePort (h : s.RequestLaw) (p : PortId) : (s.disablePort p).RequestLaw := by
  unfold State.disablePort
  split
  · exact h.same ((State.SameRequests.refl s).portResult p _)
  · refine h.removal p (f := Port.tornDown) .disabled fun n => .of_eq ?_
    have lane {l : List Record} (hl : ∀ r ∈ l, r ∈ (s.port p).pool) :
        (l.filter Record.queued).filter (Record.requestFor n) = l.filter (Record.requestFor n) :=
      filter_queued_of_unreserved fun r hr => h.unreserved (hl r hr)
    have empty : (s.port p).tornDown.requestsFor n = [] := rfl
    rw [empty, List.append_nil, Port.requestsFor, Port.allRecords, Port.queuedRecords, Port.pool, List.filter_append,
      List.filter_append, List.filter_append, List.filter_append, List.append_assoc,
      lane fun r hr => by simp [Port.pool, hr], lane fun r hr => by simp [Port.pool, hr]]

theorem flushPort (h : s.RequestLaw) (p : PortId) : (s.flushPort p).RequestLaw := by
  unfold State.flushPort
  split
  · exact h.same ((State.SameRequests.refl s).portResult p _)
  · refine h.removal p (f := fun q => q.flushLanes.withResult .done) .flushed fun n => ?_
    rw [Port.requestsFor, ← List.filter_append]
    exact (s.port p).flushLanes_pool.filter _

theorem portCommand (h : s.RequestLaw) (p : PortId) (code : BitVec 4) : (s.portCommand p code).RequestLaw := by
  have same := State.SameRequests.refl s
  unfold State.portCommand
  repeat' split
  · exact h.same (same.enablePort p)
  · exact h.disablePort p
  · exact h.same (same.resumePort p)
  · exact h.flushPort p
  · exact h.same (same.restartPort p)
  · exact h.same (same.ackAttention p)
  · exact h.same (same.portResult p _)

/-! ## Request slots -/

/-- A slot may be replaced by one that has the same record (R136). -/
theorem setRequest (h : s.RequestLaw) (n : SlotId) {q : RequestSlot}
    (e : ∀ x, (s.setRequest n q).requestRecordFor n x = s.requestRecordFor n x) : (s.setRequest n q).RequestLaw := by
  refine State.requestLaw_iff.2 fun m x => (State.requestLaw_iff.1 h m x).trans (Eq.symm ?_)
  by_cases hm : m = n
  · exact hm ▸ e x
  · exact State.requestRecordFor_congr (by rw [State.setRequest_request, if_neg hm]) x

/-- The record of a request takes no account of the result of a command (R10). -/
theorem slotResult (h : s.RequestLaw) (n : SlotId) (r : CommandResult) : (s.slotResult n r).RequestLaw :=
  h.setRequest n fun x => by
    have slot := s.slotResult_request_self n r
    unfold State.slotResult at slot
    rw [State.requestRecordFor, slot]
    rfl

/-- A slot that is not SUBMITTED, and is not made so, has no record before and after (R136). -/
theorem setRequest_of_idle (h : s.RequestLaw) (n : SlotId) {q : RequestSlot} (before : (s.request n).state ≠ .submitted)
    (after : q.state ≠ .submitted) : (s.setRequest n q).RequestLaw :=
  h.setRequest n fun x => by
    rw [State.requestRecordFor_of_not_submitted before,
      State.requestRecordFor_of_not_submitted (by rwa [State.setRequest_request_self])]

theorem writeRequest (h : s.RequestLaw) (n : SlotId) {f : RequestSlot → RequestSlot} (state : ∀ q, (f q).state = q.state) :
    (s.writeRequest n f).RequestLaw := by
  unfold State.writeRequest
  split
  · rename_i idle
    have written := h.setRequest_of_idle n (q := f (s.request n)) (by simp [idle]) (by simp [state, idle])
    exact written.same ((State.SameRequests.refl _).withAnswer _)
  · exact h.same ((State.SameRequests.refl s).withAnswer _)

/-- The record of an IDLE slot joins a lane, and the slot becomes SUBMITTED (R10, R139). -/
theorem join (h : s.RequestLaw) {n : SlotId} (idle : (s.request n).state = .idle) :
    ((s.modPort (s.request n).port (·.join (requestRecord n (s.request n)))).setRequest n
      { s.request n with state := .submitted }).RequestLaw := by
  refine State.requestLaw_of_perm fun m x => ?_
  have before := State.requestLaw_iff.1 h m
  rw [State.setRequest_port, State.modPort_port]
  by_cases hm : m = n
  · subst hm
    have unnamed : ∀ x, (s.port x).requestsFor m = [] := fun x =>
      (before x).trans (State.requestRecordFor_of_not_submitted (by simp [idle]) x)
    rw [State.requestRecordFor_of_submitted (by rw [State.setRequest_request_self]), State.setRequest_request_self]
    split
    · refine (((s.port _).join_pool _).filter _).trans (.of_eq ?_)
      rw [List.filter_cons_of_pos (Record.requestFor_iff.2 rfl)]
      exact congrArg _ (unnamed _)
    · exact .of_eq (unnamed x)
  · rw [State.requestRecordFor_congr (s := s) (by rw [State.setRequest_request, if_neg hm]; rfl), ← before x]
    split
    · rename_i hx
      refine (((s.port _).join_pool _).filter _).trans (.of_eq ?_)
      rw [hx]
      exact List.filter_cons_of_neg fun hc => hm (Source.request.inj (Record.requestFor_iff.1 hc)).symm
    · exact .refl _

theorem admitRequest (h : s.RequestLaw) {n : SlotId} (idle : (s.request n).state = .idle) : (s.admitRequest n).RequestLaw := by
  refine (h.join idle).same ?_
  unfold State.admitRequest
  dsimp only
  split
  · exact ((State.SameRequests.refl _).invalidate _ _).arbitrate _
  · exact (State.SameRequests.refl _).arbitrate _

/-- A slot that is not SUBMITTED may become COMPLETE: it has no record (R139, R143). -/
theorem completeRequest (h : s.RequestLaw) {n : SlotId} (idle : (s.request n).state = .idle) (c : Cause)
    (b : Vector Byte 16) : (s.completeRequest n c b).RequestLaw := by
  have completed := h.setRequest_of_idle n (q := { s.request n with state := .complete c, buffer := b })
    (by simp [idle]) RequestState.noConfusion
  rw [State.completeRequest_eq]
  split
  · exact completed.same ((State.SameRequests.refl _).offer _)
  · exact completed

theorem submitRequest (h : s.RequestLaw) (n : SlotId) : (s.submitRequest n).RequestLaw := by
  unfold State.submitRequest
  dsimp only
  split
  · rename_i idle
    have taken : ((s.slotResult n .done).request n).state = .idle := by rwa [s.slotResult_request_self]
    split
    · exact (h.slotResult n _).admitRequest taken
    · exact (h.slotResult n _).completeRequest taken _ _
  · exact h.slotResult n _

/-- The QUEUED record of a slot leaves its lane, and the slot becomes COMPLETE (R141, R143). -/
theorem withdraw (h : s.RequestLaw) {n : SlotId} {p : PortId} (queued : (s.port p).holdsQueued n = true) (c : Cause)
    (b : Vector Byte 16) : ((s.modPort p (·.withdraw n)).completeRequest n c b).RequestLaw := by
  refine h.removed p (rs := ((s.port p).priority ++ (s.port p).normal).filter (·.queuedFor n)) (fun m => ?_) (fun x hx => ?_)
    fun m => ?_
  · rw [State.completeRequest_port, State.modPort_port_self, Port.requestsFor, ← List.filter_append]
    exact ((s.port p).withdraw_pool n).filter _
  · rw [State.completeRequest_port, State.modPort_port_ne _ _ hx]
  · rw [State.completeRequest_request]
    by_cases hm : m = n
    · obtain ⟨r, hr, named⟩ := Port.holdsQueued_iff.1 queued
      rw [if_pos hm]
      exact .inr ⟨⟨r, List.mem_filter.2 ⟨hr, Record.queuedFor_iff.2 named⟩, hm ▸ named.1⟩, RequestState.noConfusion⟩
    · refine .inl ⟨fun r hr hc => hm ?_, if_neg hm⟩
      exact Source.request.inj (hc.symm.trans (Record.queuedFor_iff.1 (List.mem_filter.1 hr).2).1)

theorem cancelRequest (h : s.RequestLaw) (n : SlotId) : (s.cancelRequest n).RequestLaw := by
  unfold State.cancelRequest
  dsimp only
  split
  · rename_i hc
    exact ((h.slotResult n .done).withdraw hc.2 _ _).same ((State.SameRequests.refl _).arbitrate _)
  · exact h.slotResult n _

/-- A COMPLETE slot becomes IDLE, and has no record in either state (R145). -/
theorem releaseRequest (h : s.RequestLaw) (n : SlotId) : (s.releaseRequest n).RequestLaw := by
  unfold State.releaseRequest
  dsimp only
  split
  · rename_i complete
    obtain ⟨c, hc⟩ := RequestState.isComplete_iff.1 complete
    exact h.setRequest_of_idle n (by simp [hc]) RequestState.noConfusion
  · exact h.slotResult n _

theorem slotCommand (h : s.RequestLaw) (n : SlotId) (code : BitVec 4) : (s.slotCommand n code).RequestLaw := by
  unfold State.slotCommand
  repeat' split
  · exact h.submitRequest n
  · exact h.cancelRequest n
  · exact h.releaseRequest n
  · exact h.slotResult n _

/-! ## Registers -/

theorem withAnswer (h : s.RequestLaw) (a : Answer) : (s.withAnswer a).RequestLaw :=
  h.same ((State.SameRequests.refl s).withAnswer a)

theorem writeReg (h : s.RequestLaw) (r : Reg) (v : Word) : (s.writeReg r v).RequestLaw := by
  have same := State.SameRequests.refl s
  cases r with
  | globalControl => exact h.same ((same.globalCommand _).withAnswer _)
  | eventControl => exact h.same ((same.eventCommand _).withAnswer _)
  | classMask => exact h.same (same.writeClassMask v)
  | interruptControl => exact h.same (same.writeInterruptControl v)
  | discardTime => exact h.same (same.writeDiscardTime v)
  | windowControl e => exact h.same (same.writeWindowControl e v)
  | windowBase e => exact h.same (same.writeWindowBase e v)
  | windowRemote e => exact h.same (same.writeWindowRemote e v)
  | requestControl n => exact h.writeRequest n (f := (·.withControl v)) fun _ => rfl
  | requestRemote n => exact h.writeRequest n (f := fun q => { q with remote := v }) fun _ => rfl
  | requestData n k => exact h.writeRequest n (f := fun q => { q with buffer := writeBufferWord q.buffer k v }) fun _ => rfl
  | requestCommand n => exact (h.slotCommand n _).withAnswer _
  | port p x =>
    cases x with
    | control => exact (h.portCommand p _).withAnswer _
    | configA => exact h.same (same.writeConfigA p v)
    | configB => exact h.same (same.writeConfigB p v)
    | _ => exact h.withAnswer _
  | _ => exact h.withAnswer _

theorem readAccess (h : s.RequestLaw) (r : Reg) : (s.readAccess r).RequestLaw :=
  h.same ((State.SameRequests.refl s).readAccess r)

theorem registerAccess (h : s.RequestLaw) (off : BitVec 10) (a : RegAccess) : (s.registerAccess off a).RequestLaw := by
  unfold State.registerAccess
  split
  · exact h.withAnswer _
  · split
    · exact h.withAnswer _
    · exact h.readAccess _
  · split
    · exact h.withAnswer _
    · exact h.writeReg _ _

/-! ## Accesses to windows -/

theorem windowAccess (h : s.RequestLaw) (m : MasterId) (addr : Word) (k : AccessKind) :
    (s.windowAccess m addr k).RequestLaw := by
  have same := State.SameRequests.refl s
  unfold State.windowAccess
  split
  · exact h.registerAccess _ _
  · split
    · exact h.same (same.pass _)
    · split
      · exact h.same (same.ownedWrite _ _)
      · exact h.same (same.ownedRead _ _)
      · exact h.same (same.mirroredWrite m addr _ _)
      · exact h.same (same.pass _)

/-- A RESERVED record takes its data in its place, and is no REQUEST record (R8). -/
theorem commitReserved (h : s.RequestLaw) (p : PortId) (data : List Byte) :
    State.SameRequests s (s.modPort p (·.commitReserved data)) := by
  refine (State.SameRequests.refl s).modPort_of_requests p fun n => .of_eq ?_
  have lane := filter_commit_of_unreserved (f := Record.requestFor n) (l := (s.port p).normal) (data := data)
    (fun r => by simp [Record.requestFor]) fun r hr => h.unreserved (p := p) (by simp [Port.pool, hr])
  simp only [Port.requestsFor, Port.pool, Port.commitReserved, List.filter_append, lane]

theorem releaseReserved (h : s.RequestLaw) (p : PortId) : State.SameRequests s (s.modPort p Port.releaseReserved) := by
  refine (State.SameRequests.refl s).modPort_of_requests p fun n => .of_eq ?_
  have lane := filter_queued_of_unreserved (f := Record.requestFor n) (l := (s.port p).normal) fun r hr =>
    h.unreserved (p := p) (by simp [Port.pool, hr])
  simp only [Port.requestsFor, Port.pool, Port.releaseReserved, List.filter_append, lane]

theorem commitMirror (h : s.RequestLaw) (p : PortId) : (s.commitMirror p).RequestLaw := by
  have captured : (s.setTarget s.target.capture).RequestLaw := h.same ((State.SameRequests.refl s).setTarget _)
  have committed (data : List Byte) := captured.commitReserved p data
  unfold State.commitMirror
  refine captured.same (State.SameRequests.arbitrate (State.SameRequests.setTarget ?_ _) p)
  split
  · exact (committed _).invalidate p _
  · exact committed _

theorem terminateAccess (h : s.RequestLaw) (x : Termination) : (s.terminateAccess x).RequestLaw := by
  obtain ⟨-, e⟩ | ⟨p, -, ⟨-, e⟩ | ⟨-, e⟩⟩ := s.terminateAccess_cases x <;> rw [e]
  · exact h.same ((State.SameRequests.refl s).setTarget _)
  · exact h.commitMirror p
  · exact h.same ((h.releaseReserved p).setTarget _)

/-- An access that is not decided changes its recorded answer alone. -/
theorem present (h : s.RequestLaw) (b : Bool) {act : State → State} (decided : (act s).RequestLaw) :
    (s.present b act).RequestLaw := by
  obtain ⟨-, -, e⟩ | ⟨a, -, e⟩ := s.present_cases b act <;> rw [e]
  · exact decided
  · exact h.withAnswer a

theorem presentCommand (h : s.RequestLaw) {act : State → State} (decided : (act s).RequestLaw) :
    (s.presentCommand act).RequestLaw := h.present true (decided.withAnswer .ack)

theorem hostAccess (h : s.RequestLaw) (m : MasterId) (addr : Word) (k : AccessKind) : (s.hostAccess m addr k).RequestLaw :=
  h.present _ (h.windowAccess m addr k)

end

/-- The bytes of the line, one after the other (R30). -/
theorem lineBytes {s : State} (h : s.RequestLaw) (p : PortId) (bs : List Byte) : (s.lineBytes p bs).RequestLaw := by
  induction bs generalizing s with
  | nil => exact h
  | cons b bs ih => exact ih (h.lineByte p b)

end State.RequestLaw

/-! ## Resets -/

/-- With every pool empty and every slot IDLE there is nothing to wait for. -/
theorem State.requestLaw_of_empty {s : State} (pools : ∀ p, (s.port p).pool = []) (slots : ∀ n, (s.request n).state = .idle) :
    s.RequestLaw := by
  intro n p
  rw [pools, State.requestRecordFor_of_not_submitted (by simp [slots])]
  rfl

theorem State.requestLaw_hardwareReset (s : State) : s.hardwareReset.RequestLaw :=
  State.requestLaw_of_empty (fun p => by rw [State.hardwareReset_port]; rfl) fun n => by rw [State.hardwareReset_request]; rfl

theorem State.requestLaw_chipReset (s : State) : s.chipReset.RequestLaw :=
  State.requestLaw_of_empty (fun p => by rw [State.chipReset_port]; rfl) fun n => by rw [State.chipReset_request]; rfl

/-! ## Every command -/

theorem exec_requestLaw {c : Instr} {s t : State} (h : s.RequestLaw) (e : exec c s = .next t) : t.RequestLaw := by
  have same := State.SameRequests.refl s
  cases c <;> cases e
  case ownedWrite => exact h.hostAccess _ _ _
  case ownedRead => exact h.hostAccess _ _ _
  case mirroredWrite => exact h.hostAccess _ _ _
  case passedAccess => exact h.hostAccess _ _ _
  case mirrorTermination => exact h.terminateAccess _
  case registerWrite => exact h.present _ (h.registerAccess _ _)
  case configurationAWrite p v => exact h.present _ (h.writeReg (.port p .configA) v)
  case configurationBWrite p v => exact h.present _ (h.writeReg (.port p .configB) v)
  case windowControlWrite e v => exact h.present _ (h.writeReg (.windowControl e) v)
  case windowBaseWrite e v => exact h.present _ (h.writeReg (.windowBase e) v)
  case windowRemoteWrite e v => exact h.present _ (h.writeReg (.windowRemote e) v)
  case discardTimeWrite v => exact h.present _ (h.writeReg .discardTime v)
  case classMaskWrite v => exact h.present _ (h.writeReg .classMask v)
  case interruptControlWrite v => exact h.present _ (h.writeReg .interruptControl v)
  case requestControlWrite n v => exact h.present _ (h.writeReg (.requestControl n) v)
  case requestRemoteAddressWrite n v => exact h.present _ (h.writeReg (.requestRemote n) v)
  case requestDataWrite n k v => exact h.present _ (h.writeReg (.requestData n k) v)
  case enable p => exact h.presentCommand (h.same (same.enablePort p))
  case disable p => exact h.presentCommand (h.disablePort p)
  case resume p => exact h.presentCommand (h.same (same.resumePort p))
  case flush p => exact h.presentCommand (h.flushPort p)
  case restart p => exact h.presentCommand (h.same (same.restartPort p))
  case ackAttention p => exact h.presentCommand (h.same (same.ackAttention p))
  case portCommandUnknown p v => exact h.presentCommand (h.portCommand p _)
  case submit n => exact h.presentCommand (h.submitRequest n)
  case cancel n => exact h.presentCommand (h.cancelRequest n)
  case release n => exact h.presentCommand (h.releaseRequest n)
  case slotCommandUnknown n v => exact h.presentCommand (h.slotCommand n _)
  case pop => exact h.presentCommand (h.same (same.still rfl rfl))
  case eventCommandUnknown v => exact h.presentCommand (h.same (same.eventCommand _))
  case chipReset => exact h.presentCommand (h.same (same.still rfl rfl))
  case globalCommandUnknown v => exact h.presentCommand (h.same (same.globalCommand _))
  case chipResetTaken =>
    split
    · exact s.requestLaw_chipReset
    · exact h
  case hardwareReset => exact s.requestLaw_hardwareReset
  case resetRelease =>
    split
    · exact h.same (same.still rfl rfl)
    · exact h
  case crcErrorCounterRead => exact h.present _ (h.readAccess _)
  case malformedFrameCounterRead => exact h.present _ (h.readAccess _)
  case retransmissionCounterRead => exact h.present _ (h.readAccess _)
  case staleResponseCounterRead => exact h.present _ (h.readAccess _)
  case probeAttemptCounterRead => exact h.present _ (h.readAccess _)
  case mirrorLostCounterRead => exact h.present _ (h.readAccess _)
  case refusalCounterRead => exact h.present _ (h.readAccess _)
  case invalidationCounterRead => exact h.present _ (h.readAccess _)
  case ackFrameReceived p _ _ => exact h.stationFrame p _
  case dataFrameReceived p _ _ _ => exact h.stationFrame p _
  case rejectFrameReceived p _ _ _ _ => exact h.stationFrame p _
  case identFrameReceived p _ _ _ _ _ => exact h.stationFrame p _
  case crcErrorFrame p bs => exact h.lineBytes p bs
  case malformedFrame p bs => exact h.lineBytes p bs
  case carrierLost p => exact h.same (same.loseCarrier p)
  case carrierRegained p => exact h.same (same.regainCarrier p)
  case transmissionEnd p => exact h.same (same.endTransmission p)
  case responseTimerExpiry p => exact h.expireResponseTimer p
  case busyBackoffEnd p => exact h.same (same.endBackoff p)
  case probeResponseWaitExpiry p => exact h.same (same.expireResponseWait p)
  case probeIntervalExpiry p => exact h.same (same.expireProbeInterval p)
  case reprobeIntervalExpiry p => exact h.same (same.expireReprobeInterval p)
  case discardTimerExpiry n => exact h.same (same.expireDiscardTimer n)
  case holdoffTimerExpiry => exact h.same (same.still rfl rfl)
  case timestampTick => exact h.same (same.still rfl rfl)

/-- Settles O12: a step runs the command in front, which keeps the law of the slots, or idles. -/
theorem requestLawKept : Obligations.RequestLawKept := by
  intro s t hs e
  unfold step at e
  split at e
  · cases e
    exact hs.requests
  · rename_i c rest _
    exact exec_requestLaw (s := { s with pending := rest }) (hs.requests.same ((State.SameRequests.refl s).still rfl rfl)) e

end Sys2Proof.Machine
end

section
/-! PROOF. O40 and O41: what an offer and a POP make of the event queue. -/

namespace Sys2Proof.Machine

/-- The holdoff timer as R153 starts it, with its step of 8 µs written out. -/
theorem EventQueue.holdoffStart_eq (e : EventQueue) (now : Nat) : e.holdoffStart now =
    if e.holdoffSteps = 0 then .runOut else .running (now + 8 * e.holdoffSteps.toNat) := rfl

/-! ## Offers -/

/-- The lost-event counter holds at 255 (R150). -/
theorem satSucc8_eq (c : Byte) : satSucc8 c = if c = 255#8 then 255#8 else c + 1 := ite_congr rfl id fun _ => rfl

section
variable {e : EventQueue} {o : Offer} (now : Nat)

theorem EventQueue.offer_of_masked (h : e.enables o.kind = false) : e.offer now o = e := by
  obtain ⟨-, eq⟩ | ⟨enabled, -, -⟩ | ⟨enabled, -, -⟩ := e.offer_cases now o
  · exact eq
  all_goals exact absurd (h.symm.trans enabled) Bool.false_ne_true

theorem EventQueue.offer_of_room (h : e.enables o.kind = true) (room : e.records.length < 64) :
    e.offer now o = EventQueue.judged { e with
      records := e.records ++ [⟨o, e.lost, e.timestamp⟩]
      lost := 0
      holdoff := if e.records = [] then e.holdoffStart now else e.holdoff } := by
  obtain ⟨masked, -⟩ | ⟨-, full, -⟩ | ⟨-, -, eq⟩ := e.offer_cases now o
  · exact absurd (masked.symm.trans h) Bool.false_ne_true
  · exact absurd room (Nat.not_lt.2 full)
  · simpa only [List.isEmpty_iff] using eq

theorem EventQueue.offer_of_full (h : e.enables o.kind = true) (full : e.records.length = 64) :
    e.offer now o = { e with lost := satSucc8 e.lost } := by
  obtain ⟨masked, -⟩ | ⟨-, -, eq⟩ | ⟨-, room, -⟩ := e.offer_cases now o
  · exact absurd (masked.symm.trans h) Bool.false_ne_true
  · exact eq
  · exact absurd full room.ne

end

/-- Settles O40: masked, written where there is room and judged anew, or lost. -/
theorem offerIsMaskedWrittenOrLost : Obligations.OfferIsMaskedWrittenOrLost := by
  intro e now o _
  refine ⟨EventQueue.offer_of_masked now, fun enabled room => ?_, fun enabled full =>
    (e.offer_of_full now enabled full).trans (by rw [satSucc8_eq])⟩
  have holds : 1 ≤ e.records.length + 1 := Nat.le_add_left 1 _
  rw [e.offer_of_room now enabled room, EventQueue.judged, EventQueue.lineCondition_eq]
  simp only [List.length_append, List.length_singleton, holds, true_and, EventQueue.holdoffStart_eq]

/-! ## POP and the other codes -/

/-- A POP on an empty queue is IGNORED, and nothing else changes (R151). -/
theorem EventQueue.pop_of_empty {e : EventQueue} (h : e.records = []) (now : Nat) :
    e.pop now = { e with popResult := .ignored } := by
  rw [EventQueue.pop, h]

theorem EventQueue.pop_of_records {e : EventQueue} {head : EventRecord} {rest : List EventRecord}
    (h : e.records = head :: rest) (now : Nat) : e.pop now = EventQueue.judged { e with
      records := rest
      popResult := .done
      holdoff := if rest = [] then .stopped else e.holdoffStart now } := by
  simp only [EventQueue.pop, h, List.isEmpty_iff]

theorem exec_pop {s : State} (hr : s.Ready) : exec .pop s = .next ((s.setEvents (s.events.pop s.now)).withAnswer .ack) :=
  congrArg Host.Outcome.next (State.presentCommand_of_ready hr _)

theorem exec_eventCommandUnknown {s : State} (hr : s.Ready) (v : Word) :
    exec (.eventCommandUnknown v) s = .next ((s.eventCommand (commandCode v)).withAnswer .ack) :=
  congrArg Host.Outcome.next (State.presentCommand_of_ready hr _)

/-- Settles O41: a POP by whether the queue holds a record, and a code that is not POP. -/
theorem popRemovesTheHead : Obligations.PopRemovesTheHead := by
  intro s v hr
  refine ⟨fun head rest records => ?_, fun empty => ?_, fun other => ?_⟩
  · rw [exec_pop hr, EventQueue.pop_of_records records, EventQueue.judged, EventQueue.lineCondition_eq]
    rfl
  · rw [exec_pop hr, EventQueue.pop_of_empty empty]
  · rw [exec_eventCommandUnknown hr, State.eventCommand, if_neg (mt commandCode_eq_one.1 other)]
    rfl

end Sys2Proof.Machine
end

section
/-! PROOF. O22: the lookup of a register by its offset and the placing of a register at its offset are inverse to each other. -/

namespace Sys2Proof.Machine

/-- Settles O22: each register is found at its own offset, a word of the window, and an offset holds no register but the one placed
there. -/
theorem registerMapIsOneToOne : Obligations.RegisterMapIsOneToOne := by
  refine ⟨fun r => ?placed, fun o r found => ?unique⟩
  case placed => exact ⟨r.offset_lt, r.offset_aligned, regAt_offset r⟩
  case unique => exact offset_of_regAt found

end Sys2Proof.Machine
end

section
/-! PROOF. O1 and O2: a step runs the command in front, and every command completes and leaves the waiting commands alone. The
operations of one port leave them by `State.Within`; there remain the registers, the slots, the accesses to windows and the two
resets. -/

namespace Sys2Proof.Machine

/-! ## The step -/

/-- The queue is first in, first out (log entry 8). -/
theorem step_of_pending {s : State} {c : Instr} {rest : List Instr} (h : s.pending = c :: rest) :
    step s = exec c { s with pending := rest } := by rw [step, h]

/-- Settles O1: the command in front is run with the rest waiting. -/
theorem stepRunsTheFrontCommand : Obligations.StepRunsTheFrontCommand := fun _ _ _ => step_of_pending rfl

/-! ## What leaves the waiting commands alone -/

/-- `t` has the commands of `s` waiting (log entry 8). A structure, so that a claim of an operation is checked by its name and the
operation is not evaluated for the one field. -/
structure State.SameWaiting (s t : State) : Prop where
  pending : t.pending = s.pending

theorem State.Within.sameWaiting {p : PortId} {s t : State} (h : State.Within p s t) : State.SameWaiting s t :=
  ⟨State.shell_pending h.shell⟩

theorem State.SameWaiting.withAnswer {s t : State} (h : State.SameWaiting s t) (a : Answer) :
    State.SameWaiting s (t.withAnswer a) := ⟨h.pending⟩

theorem State.sameWaiting_present (s : State) (b : Bool) {act : State → State} (h : State.SameWaiting s (act s)) :
    State.SameWaiting s (s.present b act) := by
  obtain ⟨-, -, e⟩ | ⟨a, -, e⟩ := s.present_cases b act <;> rw [e]
  · exact h
  · exact ⟨rfl⟩

theorem State.sameWaiting_presentCommand (s : State) {act : State → State} (h : State.SameWaiting s (act s)) :
    State.SameWaiting s (s.presentCommand act) := s.sameWaiting_present true (h.withAnswer .ack)

/-! ### Setting registers -/

theorem State.sameWaiting_takeConfig (s : State) (p : PortId) (written : Option PortConfig) :
    State.SameWaiting s (s.takeConfig p written) := by
  unfold State.takeConfig
  split
  · exact ⟨rfl⟩
  · split <;> exact ⟨rfl⟩

theorem State.sameWaiting_writeConfigA (s : State) (p : PortId) (v : Word) : State.SameWaiting s (s.writeConfigA p v) :=
  s.writeConfigA_eq p v ▸ s.sameWaiting_takeConfig p _

theorem State.sameWaiting_writeConfigB (s : State) (p : PortId) (v : Word) : State.SameWaiting s (s.writeConfigB p v) :=
  s.writeConfigB_eq p v ▸ s.sameWaiting_takeConfig p _

theorem State.sameWaiting_writeWindowControl (s : State) (e : EntryId) (v : Word) :
    State.SameWaiting s (s.writeWindowControl e v) := by
  unfold State.writeWindowControl
  dsimp only
  split <;> split <;> exact ⟨rfl⟩

theorem State.sameWaiting_writeWindowBase (s : State) (e : EntryId) (v : Word) :
    State.SameWaiting s (s.writeWindowBase e v) := by
  unfold State.writeWindowBase
  split <;> exact ⟨rfl⟩

theorem State.sameWaiting_writeWindowRemote (s : State) (e : EntryId) (v : Word) :
    State.SameWaiting s (s.writeWindowRemote e v) := by
  unfold State.writeWindowRemote
  split <;> exact ⟨rfl⟩

theorem State.sameWaiting_writeDiscardTime (s : State) (v : Word) : State.SameWaiting s (s.writeDiscardTime v) := by
  unfold State.writeDiscardTime
  dsimp only
  split <;> exact ⟨rfl⟩

theorem State.sameWaiting_writeInterruptControl (s : State) (v : Word) :
    State.SameWaiting s (s.writeInterruptControl v) := by
  unfold State.writeInterruptControl
  dsimp only
  split <;> exact ⟨rfl⟩

theorem State.sameWaiting_writeRequest (s : State) (n : SlotId) (f : RequestSlot → RequestSlot) :
    State.SameWaiting s (s.writeRequest n f) := by
  unfold State.writeRequest
  split <;> exact ⟨rfl⟩

/-! ### Command registers -/

theorem State.sameWaiting_admitRequest (s : State) (n : SlotId) : State.SameWaiting s (s.admitRequest n) := by
  unfold State.admitRequest
  dsimp only
  split <;> exact ⟨rfl⟩

theorem State.sameWaiting_submitRequest (s : State) (n : SlotId) : State.SameWaiting s (s.submitRequest n) := by
  unfold State.submitRequest
  dsimp only
  split
  · split
    · exact ⟨(State.sameWaiting_admitRequest _ n).pending⟩
    · exact ⟨(State.within_completeRequest _ 0 n _ _).sameWaiting.pending⟩
  · exact ⟨rfl⟩

theorem State.sameWaiting_cancelRequest (s : State) (n : SlotId) : State.SameWaiting s (s.cancelRequest n) := by
  unfold State.cancelRequest
  dsimp only
  split
  · exact ⟨(State.within_completeRequest (State.modPort _ _ _) 0 n _ _).sameWaiting.pending⟩
  · exact ⟨rfl⟩

theorem State.sameWaiting_releaseRequest (s : State) (n : SlotId) : State.SameWaiting s (s.releaseRequest n) := by
  unfold State.releaseRequest
  dsimp only
  split <;> exact ⟨rfl⟩

theorem State.sameWaiting_slotCommand (s : State) (n : SlotId) (code : BitVec 4) :
    State.SameWaiting s (s.slotCommand n code) := by
  unfold State.slotCommand
  repeat' split
  · exact s.sameWaiting_submitRequest n
  · exact s.sameWaiting_cancelRequest n
  · exact s.sameWaiting_releaseRequest n
  · exact ⟨rfl⟩

theorem State.sameWaiting_eventCommand (s : State) (code : BitVec 4) : State.SameWaiting s (s.eventCommand code) := by
  unfold State.eventCommand
  split <;> exact ⟨rfl⟩

theorem State.sameWaiting_globalCommand (s : State) (code : BitVec 4) : State.SameWaiting s (s.globalCommand code) := by
  unfold State.globalCommand
  split <;> exact ⟨rfl⟩

/-! ### Any register -/

theorem State.sameWaiting_writeReg (s : State) (r : Reg) (v : Word) : State.SameWaiting s (s.writeReg r v) := by
  cases r with
  | globalControl => exact (s.sameWaiting_globalCommand _).withAnswer .ack
  | eventControl => exact (s.sameWaiting_eventCommand _).withAnswer .ack
  | interruptControl => exact s.sameWaiting_writeInterruptControl v
  | discardTime => exact s.sameWaiting_writeDiscardTime v
  | windowControl e => exact s.sameWaiting_writeWindowControl e v
  | windowBase e => exact s.sameWaiting_writeWindowBase e v
  | windowRemote e => exact s.sameWaiting_writeWindowRemote e v
  | requestControl n => exact s.sameWaiting_writeRequest n (·.withControl v)
  | requestRemote n => exact s.sameWaiting_writeRequest n fun q => { q with remote := v }
  | requestData n k => exact s.sameWaiting_writeRequest n fun q => { q with buffer := writeBufferWord q.buffer k v }
  | requestCommand n => exact (s.sameWaiting_slotCommand n _).withAnswer .ack
  | port p x =>
    cases x with
    | control => exact (s.within_portCommand p _).sameWaiting.withAnswer .ack
    | configA => exact s.sameWaiting_writeConfigA p v
    | configB => exact s.sameWaiting_writeConfigB p v
    | _ => exact ⟨rfl⟩
  | _ => exact ⟨rfl⟩

theorem State.sameWaiting_readAccess (s : State) (r : Reg) : State.SameWaiting s (s.readAccess r) := by
  cases r <;> exact ⟨rfl⟩

theorem State.sameWaiting_registerAccess (s : State) (off : BitVec 10) (a : RegAccess) :
    State.SameWaiting s (s.registerAccess off a) := by
  unfold State.registerAccess
  split
  · exact ⟨rfl⟩
  · split
    · exact ⟨rfl⟩
    · exact s.sameWaiting_readAccess _
  · split
    · exact ⟨rfl⟩
    · exact s.sameWaiting_writeReg _ _

/-! ### Accesses to windows -/

theorem State.sameWaiting_ownedWrite (s : State) (h : Hit) (d : WriteData) : State.SameWaiting s (s.ownedWrite h d) := by
  unfold State.ownedWrite
  split
  · exact ⟨rfl⟩
  · split <;> exact ⟨rfl⟩

theorem State.sameWaiting_newRead (s : State) (k : ReadKey) (h : Hit) : State.SameWaiting s (s.newRead k h) := by
  unfold State.newRead
  split
  · exact ⟨rfl⟩
  · split
    · exact ⟨rfl⟩
    · split <;> exact ⟨rfl⟩

theorem State.sameWaiting_ownedRead (s : State) (k : ReadKey) (h : Hit) : State.SameWaiting s (s.ownedRead k h) := by
  have afresh (n : SlotId) : State.SameWaiting s ((s.setReadSlot n none).newRead k h) :=
    ⟨(State.sameWaiting_newRead _ k h).pending.trans (s.setReadSlot_pending n none)⟩
  unfold State.ownedRead
  split
  · exact ⟨rfl⟩
  · unfold State.decideRead
    split
    · exact s.sameWaiting_newRead k h
    · split
      · exact ⟨rfl⟩
      · split
        · exact ⟨rfl⟩
        · exact afresh _
      · split
        · exact ⟨rfl⟩
        · exact afresh _

theorem State.sameWaiting_mirroredWrite (s : State) (m : MasterId) (addr : Word) (h : Hit) (d : WriteData) :
    State.SameWaiting s (s.mirroredWrite m addr h d) := by
  obtain ⟨-, e⟩ | ⟨-, -, e⟩ | ⟨-, -, e⟩ | ⟨-, -, -, e⟩ := s.mirroredWrite_cases m addr h d <;> rw [e]
  · exact ⟨rfl⟩
  · exact ⟨(State.pass_pending _ _).trans (s.lineTurn_loseMirror h.port).within.sameWaiting.pending⟩
  · exact ⟨rfl⟩
  · exact ⟨rfl⟩

theorem State.sameWaiting_hostAccess (s : State) (m : MasterId) (addr : Word) (k : AccessKind) :
    State.SameWaiting s (s.hostAccess m addr k) := by
  refine s.sameWaiting_present _ ?_
  unfold State.windowAccess
  split
  · exact s.sameWaiting_registerAccess _ _
  · split
    · exact ⟨rfl⟩
    · split
      · exact s.sameWaiting_ownedWrite _ _
      · exact s.sameWaiting_ownedRead _ _
      · exact s.sameWaiting_mirroredWrite m addr _ _
      · exact ⟨rfl⟩

theorem State.sameWaiting_commitMirror (s : State) (p : PortId) : State.SameWaiting s (s.commitMirror p) := by
  unfold State.commitMirror
  dsimp only
  split <;> exact ⟨rfl⟩

theorem State.sameWaiting_terminateAccess (s : State) (x : Termination) : State.SameWaiting s (s.terminateAccess x) := by
  obtain ⟨-, e⟩ | ⟨p, -, ⟨-, e⟩ | ⟨-, e⟩⟩ := s.terminateAccess_cases x <;> rw [e]
  · exact ⟨rfl⟩
  · exact s.sameWaiting_commitMirror p
  · exact ⟨rfl⟩

/-! ### The discard timer -/

theorem State.sameWaiting_expireDiscardTimer (s : State) (n : SlotId) : State.SameWaiting s (s.expireDiscardTimer n) := by
  unfold State.expireDiscardTimer
  split
  · exact ⟨rfl⟩
  · split <;> exact ⟨rfl⟩

/-! ## Every command -/

/-- A happening that the state rules out leaves the state: no command faults and none is refused (log entry 6). -/
theorem exec_completes (c : Instr) (s : State) : ∃ t, exec c s = .next t := by
  cases c <;> exact ⟨_, rfl⟩

theorem exec_sameWaiting {c : Instr} {s t : State} (h : exec c s = .next t) : State.SameWaiting s t := by
  cases c <;> cases h
  -- accesses by address, and their termination
  case ownedWrite | ownedRead | mirroredWrite | passedAccess => exact s.sameWaiting_hostAccess _ _ _
  case mirrorTermination => exact s.sameWaiting_terminateAccess _
  -- accesses to registers
  case registerWrite => exact s.sameWaiting_present _ (s.sameWaiting_registerAccess _ _)
  case configurationAWrite p v => exact s.sameWaiting_present _ (s.sameWaiting_writeConfigA p v)
  case configurationBWrite p v => exact s.sameWaiting_present _ (s.sameWaiting_writeConfigB p v)
  case windowControlWrite e v => exact s.sameWaiting_present _ (s.sameWaiting_writeWindowControl e v)
  case windowBaseWrite e v => exact s.sameWaiting_present _ (s.sameWaiting_writeWindowBase e v)
  case windowRemoteWrite e v => exact s.sameWaiting_present _ (s.sameWaiting_writeWindowRemote e v)
  case discardTimeWrite v => exact s.sameWaiting_present _ (s.sameWaiting_writeDiscardTime v)
  case classMaskWrite => exact s.sameWaiting_present _ ⟨rfl⟩
  case interruptControlWrite v => exact s.sameWaiting_present _ (s.sameWaiting_writeInterruptControl v)
  case requestControlWrite | requestRemoteAddressWrite | requestDataWrite =>
    exact s.sameWaiting_present _ (s.sameWaiting_writeRequest _ _)
  case crcErrorCounterRead | malformedFrameCounterRead | retransmissionCounterRead | staleResponseCounterRead |
      probeAttemptCounterRead | mirrorLostCounterRead | refusalCounterRead | invalidationCounterRead =>
    exact s.sameWaiting_present _ (s.sameWaiting_readAccess _)
  -- commands of ports, slots, the event queue and the bridge
  case enable p => exact s.sameWaiting_presentCommand (s.within_enablePort p).sameWaiting
  case disable p => exact s.sameWaiting_presentCommand (s.within_disablePort p).sameWaiting
  case resume p => exact s.sameWaiting_presentCommand (s.within_resumePort p).sameWaiting
  case flush p => exact s.sameWaiting_presentCommand (s.within_flushPort p).sameWaiting
  case restart p => exact s.sameWaiting_presentCommand (s.within_restartPort p).sameWaiting
  case ackAttention p => exact s.sameWaiting_presentCommand (s.within_ackAttention p).sameWaiting
  case portCommandUnknown p v => exact s.sameWaiting_presentCommand (s.within_portCommand p _).sameWaiting
  case submit n => exact s.sameWaiting_presentCommand (s.sameWaiting_submitRequest n)
  case cancel n => exact s.sameWaiting_presentCommand (s.sameWaiting_cancelRequest n)
  case release n => exact s.sameWaiting_presentCommand (s.sameWaiting_releaseRequest n)
  case slotCommandUnknown n v => exact s.sameWaiting_presentCommand (s.sameWaiting_slotCommand n _)
  case eventCommandUnknown => exact s.sameWaiting_presentCommand (s.sameWaiting_eventCommand _)
  case globalCommandUnknown => exact s.sameWaiting_presentCommand (s.sameWaiting_globalCommand _)
  case pop | chipReset => exact s.sameWaiting_presentCommand ⟨rfl⟩
  -- the resets
  case hardwareReset => exact ⟨rfl⟩
  case chipResetTaken | resetRelease => split <;> exact ⟨rfl⟩
  -- the lines
  case ackFrameReceived | dataFrameReceived | rejectFrameReceived | identFrameReceived =>
    exact (s.within_stationFrame _ _).sameWaiting
  case crcErrorFrame | malformedFrame => exact (State.within_lineBytes _ _ s).sameWaiting
  case carrierLost p => exact (s.within_loseCarrier p).sameWaiting
  case carrierRegained p => exact (s.within_regainCarrier p).sameWaiting
  case transmissionEnd p => exact (s.within_endTransmission p).sameWaiting
  -- the timers
  case responseTimerExpiry p => exact (s.within_expireResponseTimer p).sameWaiting
  case busyBackoffEnd p => exact (s.within_endBackoff p).sameWaiting
  case probeResponseWaitExpiry p => exact (s.within_expireResponseWait p).sameWaiting
  case probeIntervalExpiry p => exact (s.within_expireProbeInterval p).sameWaiting
  case reprobeIntervalExpiry p => exact (s.within_expireReprobeInterval p).sameWaiting
  case discardTimerExpiry n => exact s.sameWaiting_expireDiscardTimer n
  case holdoffTimerExpiry | timestampTick => exact ⟨rfl⟩

/-- Settles O2: every command has a next state, and by the command that state has the same commands waiting. -/
theorem everyCommandCompletes : Obligations.EveryCommandCompletes := fun c s =>
  have ⟨t, completes⟩ := exec_completes c s
  ⟨t, completes, (exec_sameWaiting completes).pending⟩

end Sys2Proof.Machine
end
